-- ==== Sys2Proof/Word.lean ====
section
/-! DEFINITION. The words of fixed width that the core moves (00_scope.md R10; 10_state.md R24 to R45).
Widths that a parameter sets (`SPI_W`, `BCD_W`, the counters) are no word type: such a register is a
`Nat` that every write cuts to its width (Machine/Bits.lean). -/

namespace Sys2Proof

/-- One 4-bit digit of a packed word (R63). -/
abbrev Nibble := BitVec 4

/-- A 16-bit packed-BCD word: digit i at bits `[4i+3:4i]` (R63). -/
abbrev Packed := BitVec 16

/-- The 8 segment lines: bits 0 to 6 are segments a to g, bit 7 the decimal point (R195). -/
abbrev Segments := BitVec 8

/-- The 4 digit-enable lines: bit i enables digit i (R28). -/
abbrev DigitLines := BitVec 4

/-- A condition vector, bit 0 first; the widest sub-unit has 4 bits (R81). -/
abbrev Vec := BitVec 4

end Sys2Proof
end

