-- ==== Sys2Proof/Syntax.lean ====
section
/-! DEFINITION. The operations of the core (one constructor per row of spec/opcode_table.json,
30_encoding.md R82), the sub-units that perform them (R81), and the stimulus that drives the input
ports (R84, R92). -/

namespace Sys2Proof

/-- A TickGenerator instance of the core: the unit of R1 itself, or the DisplayScanner's own
instance (R191). Each is a unit of its own with its own parameters and counter (R242). -/
inductive TickInst where
  | standalone
  | display
deriving DecidableEq, Repr

/-- The sub-units of R81, in the order of its table. `block` performs RESET for the whole core. -/
inductive SubUnit where
  | block
  | tg (inst : TickInst)
  | spiCtl
  | spiTx
  | spiRx
  | spiDly
  | bcd
  | ds
  | dbSync
  | dbFilt
deriving DecidableEq, Repr

/-- One named next-state transition of one sub-unit (R80): the rows of R82, in the table's order. -/
inductive Instr where
  | reset
  | tgStrobe (inst : TickInst)
  | tgCount (inst : TickInst)
  | spiIdle
  | spiStart
  | spiWait
  | spiToggle
  | spiLastToggle
  | spiLoad
  | spiShiftOut
  | spiTxHold
  | spiCapture
  | spiRxHold
  | spiClkDelay
  | bcdStart
  | bcdIdle
  | bcdAdd3
  | bcdShift
  | bcdLastShift
  | dsAdvance
  | dsHold
  | dbSyncShift
  | dbMatch
  | dbCount
  | dbFlipUp
  | dbFlipDown
deriving DecidableEq, Repr

/-- The sub-unit whose registers an operation writes (R81, R82). -/
def Instr.subUnit : Instr → SubUnit
  | .reset => .block
  | .tgStrobe t => .tg t
  | .tgCount t => .tg t
  | .spiIdle => .spiCtl
  | .spiStart => .spiCtl
  | .spiWait => .spiCtl
  | .spiToggle => .spiCtl
  | .spiLastToggle => .spiCtl
  | .spiLoad => .spiTx
  | .spiShiftOut => .spiTx
  | .spiTxHold => .spiTx
  | .spiCapture => .spiRx
  | .spiRxHold => .spiRx
  | .spiClkDelay => .spiDly
  | .bcdStart => .bcd
  | .bcdIdle => .bcd
  | .bcdAdd3 => .bcd
  | .bcdShift => .bcd
  | .bcdLastShift => .bcd
  | .dsAdvance => .ds
  | .dsHold => .ds
  | .dbSyncShift => .dbSync
  | .dbMatch => .dbFilt
  | .dbCount => .dbFilt
  | .dbFlipUp => .dbFilt
  | .dbFlipDown => .dbFilt

/-- The levels at the input ports during one cycle (R24, R26 to R29). The ports `cmd` and `din` are
`SPI_W` and `BCD_W` bits wide: what a sub-unit samples is cut to that width
(Machine/Operands.lean). -/
structure Inputs where
  rst : Bool
  en : Bool
  miso : Bool
  cmd : Nat
  enable : Bool
  din : Nat
  digits : Packed
  aIn : Bool
deriving DecidableEq, Repr, Inhabited

/-- Every input port at 0: what R92 gives an input that is not yet set. -/
def Inputs.zero : Inputs :=
  { rst := false, en := false, miso := false, cmd := 0, enable := false, din := 0,
    digits := 0, aIn := false }

/-- One `<port>=<value>` of a stimulus line (R92). -/
inductive PortValue where
  | rst (v : Bool)
  | en (v : Bool)
  | miso (v : Bool)
  | cmd (v : Nat)
  | enable (v : Bool)
  | din (v : Nat)
  | digits (v : Packed)
  | aIn (v : Bool)
deriving DecidableEq, Repr

/-- One line `@<t> <port>=<value>, ...` of a stimulus script (R92): from cycle `cycle` on, each port
named holds its value. -/
structure StimulusLine where
  cycle : Nat
  sets : List PortValue
deriving DecidableEq, Repr

/-- The per-cycle input words of R84, one per unit (the TickGenerator has none). -/
structure InputWords where
  block : Nat
  spi : Nat
  bcd : Nat
  ds : Nat
  db : Nat
deriving DecidableEq, Repr

end Sys2Proof
end

