-- ==== Sys2Proof/Config.lean ====
section
/-! DEFINITION. The implementation parameters of 00_scope.md R7, the reference configuration of R9,
and the one free value of the model (the environment's input draws, 60_exceptions.md R243). -/

namespace Sys2Proof

/-- Which synthesized edge pulse captures `miso` (`SPI_CAPTURE_EDGE`, R7). -/
inductive Edge where
  | rise
  | fall
deriving DecidableEq, Repr

/-- The parameters of one TickGenerator instance: `TICK_N` and `TICK_INIT` (R7). -/
structure TickParams where
  n : Nat
  init : Nat
deriving DecidableEq, Repr

/-- The parameters of R7 that a rule of the core reads. `F_CLK` is not among them: it enters only
through the computation of `TICK_N`, and the model never reads it (R262; log 15). No operation
writes a parameter (R7, R51). -/
structure Config where
  tick : TickParams
  dispTick : TickParams
  spiW : Nat
  spiDiv : Nat
  captureEdge : Edge
  csActiveLow : Bool
  bcdW : Nat
  segTable : List Segments
  segActiveLow : Bool
  digActiveLow : Bool
  debN : Nat
  debInit : Bool
deriving DecidableEq, Repr

/-- The parameters of a TickGenerator instance with the default `TICK_INIT` of R7,
`max(TICK_N,1)-1`. -/
def TickParams.ofPeriod (n : Nat) : TickParams := { n := n, init := max n 1 - 1 }

/-- The default segment table of R195 (general knowledge, not the board's table; log 7). -/
def Config.hexFont : List Segments :=
  [0x3F, 0x06, 0x5B, 0x4F, 0x66, 0x6D, 0x7D, 0x07,
   0x7F, 0x6F, 0x77, 0x7C, 0x39, 0x5E, 0x79, 0x71]

/-- The reference configuration of R9. Four of its values stand where R7 gives none, each a DESIGN
CHOICE of log 6: `TICK_N = 3` ("instance-dependent"), `DISP_TICK_N = 50000` (`F_CLK` is OPEN; the
number is R108's example for 12 MHz), and both display polarities false (OPEN). Unsafe: a claim
about the built board may not lean on them. -/
def Config.reference : Config :=
  { tick := TickParams.ofPeriod 3
    dispTick := TickParams.ofPeriod 50000
    spiW := 24
    spiDiv := 63
    captureEdge := .rise
    csActiveLow := true
    bcdW := 10
    segTable := Config.hexFont
    segActiveLow := false
    digActiveLow := false
    debN := 65536
    debInit := false }

/-- The environment's draw number `k` (R243: every input level of every cycle is the environment's
to choose; R220: so is what a metastable `a_in` reads as). It has no body, so nothing can be proved
of a drawn level. It is read only for a cycle that State's script does not cover (log 4, log 5). -/
opaque Config.draw : Nat → Inputs

end Sys2Proof
end

