-- ==== Sys2Proof/Machine/Bits.lean ====
section
/-! DEFINITION. Widths, cuts and bit fields (00_scope.md R8 and R10, 20_memory.md R62 and R63).
A register whose width a parameter sets is a `Nat`; every value written to it goes through `cut`,
`decAt` or `incAt`, which keep it below two to the width. -/

namespace Sys2Proof.Machine

/-- `bitlen(x)`: the number of bits of x, with `bitlen(0) = 0` (R8). -/
def bitlen (x : Nat) : Nat := if x = 0 then 0 else Nat.log2 x + 1

/-- A value cut to a register of `w` bits (R10). -/
def cut (w x : Nat) : Nat := x % 2 ^ w

/-- `x - 1` cut to `w` bits. A decrement that the rules reach never starts at 0, so it never wraps
(R101, R125, R168); at 0 it would give all ones, as a `w`-bit register does (log 10). -/
def decAt (w x : Nat) : Nat := cut w (x + (2 ^ w - 1))

/-- `x + 1` cut to `w` bits. The increment of R213 never wraps (R216). -/
def incAt (w x : Nat) : Nat := cut w (x + 1)

/-- `(v << 1)` in a register of `w` bits with the bit `b` entering at the low end:
`{v[w-2:0], b}`, and for `w = 1` just `b` (R138, R141). -/
def shiftIn (w v : Nat) (b : Bool) : Nat := cut w (2 * v + b.toNat)

/-- Digit i of a packed word: bits `[4i+3:4i]` (R63). -/
def nibble (v : Packed) (i : Nat) : Nibble := v.extractLsb' (4 * i) 4

/-- The packed word whose digits 0 to 3 are the four given (R63). -/
def packNibbles (n0 n1 n2 n3 : Nibble) : Packed := n3 ++ n2 ++ n1 ++ n0

/-- A condition vector from its bits, bit 0 first (R81). -/
def vec (b0 b1 b2 b3 : Bool) : Vec :=
  BitVec.ofBool b3 ++ BitVec.ofBool b2 ++ BitVec.ofBool b1 ++ BitVec.ofBool b0

end Sys2Proof.Machine
end

