-- ==== Sys2Proof/Machine/Derived.lean ====
section
/-! DEFINITION. The values and widths derived from the parameters (00_scope.md R8), and the
elaboration-time computation of `TICK_N` (40_tick_generator.md R107). -/

namespace Sys2Proof

open Sys2Proof.Machine (bitlen)

/-- `TICK_R`, the reload value of a TickGenerator: `max(TICK_N, 1) - 1` (R8, R100). -/
def TickParams.reload (p : TickParams) : Nat := max p.n 1 - 1

/-- `P = TICK_R + 1 = max(TICK_N, 1)`, the strobe period in cycles (R103). -/
def TickParams.period (p : TickParams) : Nat := max p.n 1

/-- `TW`, the width of a TickGenerator counter (R8). -/
def TickParams.width (p : TickParams) : Nat := max 1 (bitlen p.reload)

/-- The parameters of one TickGenerator instance (R7, R191). -/
def Config.tickParams (c : Config) : TickInst → TickParams
  | .standalone => c.tick
  | .display => c.dispTick

/-- `DW`, the width of the SPI divider (R8). -/
def Config.divWidth (c : Config) : Nat := max 1 (bitlen c.spiDiv)

/-- `2 * SPI_W`, the number of bus-clock edges of a transfer (R33). -/
def Config.spiEdges (c : Config) : Nat := 2 * c.spiW

/-- `EW`, the width of the SPI edge counter (R8). -/
def Config.edgeWidth (c : Config) : Nat := bitlen c.spiEdges

/-- `SPI_H`, the half period of the bus clock in cycles (R8). -/
def Config.spiHalf (c : Config) : Nat := c.spiDiv + 1

/-- `CW`, the width of the BCD counter (R8). -/
def Config.bcdCntWidth (c : Config) : Nat := bitlen c.bcdW

/-- `DBW`, the width of the debounce counter (R8). -/
def Config.debWidth (c : Config) : Nat := max 1 (bitlen (c.debN - 1))

/-- `DEB_N - 1`, the full count of the debounce counter (R45, R210). -/
def Config.debFull (c : Config) : Nat := c.debN - 1

/-- `SEG_TABLE[i]`; the table has an entry for each of the 16 nibbles (R195, R196, R262). -/
def Config.segments (c : Config) (i : Nibble) : Segments := c.segTable.getD i.toNat 0

/-- The edge that shifts `tx`: the one that does not capture (R47). -/
def Config.shiftEdge (c : Config) : Edge :=
  match c.captureEdge with
  | .rise => .fall
  | .fall => .rise

/-- `a / b` rounded to the nearest natural number, halves to even: the rounding R107 gives a model
that computes `TICK_N` (general knowledge, log 15). Only the reference values use it, never a
step. -/
def roundHalfEven (a b : Nat) : Nat :=
  if 2 * (a % b) < b then a / b
  else if b < 2 * (a % b) then a / b + 1
  else a / b + (a / b) % 2

/-- `TICK_N = round(period * tick_rate)` for a tick rate of `fClk` cycles per second and a period of
`num / den` seconds (R107). -/
def tickN (fClk num den : Nat) : Nat := roundHalfEven (fClk * num) den

end Sys2Proof
end

