-- ==== Sys2Proof/WellFormed.lean ====
section
/-! DEFINITION. What a model accepts: the parameter checks of 70_reset_and_hazards.md R262, one
definition each, and the port widths of 10_state.md R26 and R27 for stimulus values. -/

namespace Sys2Proof

/-- R262: `0 <= TICK_INIT <= max(TICK_N,1) - 1`. `TICK_N = 0` is accepted (R102). -/
def TickParams.initInRange (p : TickParams) : Bool := decide (p.init ≤ max p.n 1 - 1)

/-- R262: `SPI_W >= 1`. -/
def Config.spiWidthLegal (c : Config) : Bool := decide (1 ≤ c.spiW)

/-- R262: `BCD_W >= 1`. -/
def Config.bcdWidthLegal (c : Config) : Bool := decide (1 ≤ c.bcdW)

/-- R262: `DEB_N >= 1`. `DEB_N = 1` is accepted (R218). -/
def Config.debounceLegal (c : Config) : Bool := decide (1 ≤ c.debN)

/-- R262: `SEG_TABLE` has 16 entries (of 8 bits, by its type). -/
def Config.segTableLegal (c : Config) : Bool := decide (c.segTable.length = 16)

/-- R262: the configuration is one a model accepts. `SPI_DIV >= 0` holds of every natural number. -/
def Config.wellFormed (c : Config) : Bool :=
  c.spiWidthLegal && c.bcdWidthLegal && c.debounceLegal && c.tick.initInRange &&
    c.dispTick.initInRange && c.segTableLegal

/-- The value of port `cmd` fits its `SPI_W` bits (R26). -/
def Inputs.cmdFits (c : Config) (i : Inputs) : Bool := decide (i.cmd < 2 ^ c.spiW)

/-- The value of port `din` fits its `BCD_W` bits (R27). -/
def Inputs.dinFits (c : Config) (i : Inputs) : Bool := decide (i.din < 2 ^ c.bcdW)

/-- The input levels fit their ports. A step does not ask for it: a port samples its own width
(log 14). -/
def Inputs.wellFormed (c : Config) (i : Inputs) : Bool := i.cmdFits c && i.dinFits c

/-- Every operation is well formed: its only operand is a TickGenerator instance, and nothing in the
core is an illegal encoding (R83, R89). -/
def Instr.wellFormed : Instr → Bool := fun _ => true

end Sys2Proof
end

