-- ==== Sys2Proof/Decode.lean ====
section
/-! DEFINITION. The decode tables of 30_encoding.md R82, the decoder over them (total, rejecting by
name), and the encoder, written from the same tables. The hardware stores no instruction words
(20_memory.md R61): what it decodes each cycle is one condition vector per sub-unit. The 16-bit
words below exist for tools only (log 1, log 2). -/

namespace Sys2Proof

/-- One row of R82: an operation with its `match` and `mask` over its sub-unit's vector. -/
structure Row where
  op : Instr
  pat : Vec
  mask : Vec
deriving DecidableEq, Repr

/-- Why the decoder answers no operation. -/
inductive Reject where
  /-- A vector with a bit above its sub-unit's width (R81). -/
  | vectorTooWide (u : SubUnit)
  /-- No row of the sub-unit matches; only BLOCK with `rst = 0` (R82 gives it RESET alone). -/
  | noOperation (u : SubUnit)
  /-- A tool word whose sub-unit number names no sub-unit (log 1). -/
  | noSubUnit
  /-- A tool word with a bit set that its layout does not use (log 1). -/
  | reservedBits
  /-- A tool word without a sub-unit number that is no row's `match` (log 2). -/
  | noTableRow
deriving DecidableEq, Repr

/-- How many condition bits a sub-unit has (R81). -/
def SubUnit.width : SubUnit → Nat
  | .block => 1
  | .tg _ => 1
  | .spiCtl => 4
  | .spiTx => 2
  | .spiRx => 1
  | .spiDly => 0
  | .bcd => 4
  | .ds => 1
  | .dbSync => 0
  | .dbFilt => 3

/-- The rows of one sub-unit, as R82 lists them. -/
def SubUnit.rows : SubUnit → List Row
  | .block => [⟨.reset, 0b1, 0b1⟩]
  | .tg t => [⟨.tgStrobe t, 0b1, 0b1⟩, ⟨.tgCount t, 0b0, 0b1⟩]
  | .spiCtl =>
      [⟨.spiIdle, 0b0000, 0b0011⟩, ⟨.spiStart, 0b0001, 0b0011⟩, ⟨.spiWait, 0b0010, 0b0110⟩,
       ⟨.spiToggle, 0b0110, 0b1110⟩, ⟨.spiLastToggle, 0b1110, 0b1110⟩]
  | .spiTx => [⟨.spiLoad, 0b01, 0b01⟩, ⟨.spiShiftOut, 0b10, 0b11⟩, ⟨.spiTxHold, 0b00, 0b11⟩]
  | .spiRx => [⟨.spiCapture, 0b1, 0b1⟩, ⟨.spiRxHold, 0b0, 0b1⟩]
  | .spiDly => [⟨.spiClkDelay, 0, 0⟩]
  | .bcd =>
      [⟨.bcdStart, 0b0001, 0b0001⟩, ⟨.bcdIdle, 0b0000, 0b0011⟩, ⟨.bcdAdd3, 0b0110, 0b0111⟩,
       ⟨.bcdShift, 0b0010, 0b1111⟩, ⟨.bcdLastShift, 0b1010, 0b1111⟩]
  | .ds => [⟨.dsAdvance, 0b1, 0b1⟩, ⟨.dsHold, 0b0, 0b1⟩]
  | .dbSync => [⟨.dbSyncShift, 0, 0⟩]
  | .dbFilt =>
      [⟨.dbMatch, 0b000, 0b001⟩, ⟨.dbCount, 0b001, 0b011⟩, ⟨.dbFlipUp, 0b111, 0b111⟩,
       ⟨.dbFlipDown, 0b011, 0b111⟩]

/-- A row applies when `(vector & mask) == match` (R80). -/
def Row.applies (r : Row) (v : Vec) : Bool := (v &&& r.mask) == r.pat

/-- The operation a sub-unit performs for a condition vector (R80, R82). -/
def decode (u : SubUnit) (v : Vec) : Except Reject Instr :=
  if 2 ^ u.width ≤ v.toNat then .error (.vectorTooWide u)
  else match u.rows.find? (fun r => r.applies v) with
    | some r => .ok r.op
    | none => .error (.noOperation u)

/-- Every sub-unit, in the order of R81. -/
def SubUnit.all : List SubUnit :=
  [.block, .tg .standalone, .tg .display, .spiCtl, .spiTx, .spiRx, .spiDly, .bcd, .ds, .dbSync,
   .dbFilt]

/-- Every row of R82, in the table's order (the TG rows once per instance). -/
def allRows : List Row := SubUnit.all.flatMap SubUnit.rows

/-- The row of an operation. -/
def Instr.row (i : Instr) : Option Row := i.subUnit.rows.find? (fun r => r.op == i)

/-- The bits an operation's row ignores (`x` in R82), set in `free`, added to its `match`: every
vector of the sub-unit that selects the operation has this form. -/
def encodeVector (i : Instr) (free : Vec) : Option Vec :=
  i.row.map (fun r => r.pat ||| (free &&& ~~~r.mask &&& BitVec.ofNat 4 (2 ^ i.subUnit.width - 1)))

/-- The number of a sub-unit in a tool word: its place in the order of R81, from 1 (log 1). -/
def SubUnit.tag : SubUnit → Nat
  | .block => 1
  | .tg .standalone => 2
  | .tg .display => 3
  | .spiCtl => 4
  | .spiTx => 5
  | .spiRx => 6
  | .spiDly => 7
  | .bcd => 8
  | .ds => 9
  | .dbSync => 10
  | .dbFilt => 11

/-- A tool word of two bytes (log 1): the low byte holds the condition vector in bits 3..0, the high
byte the sub-unit's number in bits 11..8; the other bits are 0. A high byte of 0 means that no
sub-unit is named, as in the rows of opcode_table.json. -/
def decodeWord (w : Nat) : Except Reject Instr :=
  let v := w % 256
  let tag := w / 256
  if 16 ≤ v then .error .reservedBits
  else if tag = 0 then
    match allRows.find? (fun r => r.pat.toNat == v && decide (0 < r.op.subUnit.width)) with
    | some r => .ok r.op
    | none => .error .noTableRow
  else match SubUnit.all.find? (fun u => u.tag == tag) with
    | some u => decode u (BitVec.ofNat 4 v)
    | none => .error .noSubUnit

/-- The tool word of an operation, with the bits its row ignores at 0 (log 1). -/
def encodeWord (i : Instr) : Option Nat :=
  (encodeVector i 0).map (fun v => 256 * i.subUnit.tag + v.toNat)

/-- The operation the decoder reads from a row of opcode_table.json whose bits are `w`. The table's
bits are a condition vector alone and do not name the sub-unit, so a vector of several sub-units is
read as the first row of the table that has it as its `match` (log 2). -/
def decodeTableWord (nbits w : Nat) : Option Instr :=
  match decodeWord (w % 2 ^ nbits) with
  | .ok i => some i
  | .error _ => none

end Sys2Proof
end

