-- ==== Sys2Proof/Machine/State.lean ====
section
/-! DEFINITION. The whole state of the core as plain data: every register of 10_state.md R30 to R45,
the parameters of 00_scope.md R7, and the input levels that drive the cycles; the reset state (R53,
R260, R261); and the reasons a step can stop. -/

namespace Sys2Proof.Machine

/-- SpiMaster `state` (R31): IDLE (0) or TRANSFER (1). -/
inductive SpiState where
  | idle
  | transfer
deriving DecidableEq, Repr

/-- The registers that SPI_CTL writes (R31 to R34, R81). -/
structure SpiCtl where
  /-- `state`, R31. -/
  state : SpiState
  /-- `div`, `DW` bits, R32. -/
  div : Nat
  /-- `edges`, `EW` bits, R33. -/
  edges : Nat
  /-- `sclk`, R34. -/
  sclk : Bool
deriving DecidableEq, Repr

/-- The registers of the BcdConverter (R38 to R43). -/
structure Bcd where
  /-- `work`, `BCD_W` bits, R38. -/
  work : Nat
  /-- `acc`, R39. -/
  acc : Packed
  /-- `cnt`, `CW` bits, R40. -/
  cnt : Nat
  /-- `active`, R41. -/
  active : Bool
  /-- `fix`, R42. -/
  fix : Bool
  /-- `out`, R43. -/
  out : Packed
deriving DecidableEq, Repr

/-- The registers that DB_SYNC writes (R45). -/
structure DbSync where
  s1 : Bool
  s2 : Bool
deriving DecidableEq, Repr

/-- The registers that DB_FILT writes (R45). -/
structure DbFilt where
  stable : Bool
  /-- `cnt`, `DBW` bits. -/
  cnt : Nat
  up : Bool
  down : Bool
deriving DecidableEq, Repr

/-- The state of the core during one cycle. The registers are grouped by the sub-unit that writes
them (R72, R81). -/
structure State where
  /-- The parameters (R7); no operation writes them. -/
  cfg : Config
  /-- The levels at the input ports in this cycle. -/
  inp : Inputs
  /-- The levels at the input ports in the cycles that follow, next cycle first (R92). -/
  script : List Inputs
  /-- How many draws the environment has made after the script ran out (the model's own; log 5). -/
  drawn : Nat
  /-- `cnt` of the TickGenerator, R30. -/
  tick : Nat
  /-- `cnt` of the DisplayScanner's TickGenerator, R44. -/
  dispTick : Nat
  /-- SPI_CTL's registers. -/
  ctl : SpiCtl
  /-- `tx`, `SPI_W` bits, R36. -/
  tx : Nat
  /-- `rx`, `SPI_W` bits, R37. -/
  rx : Nat
  /-- `sclk_q`, R35. -/
  sclkQ : Bool
  /-- The BcdConverter's registers. -/
  bcd : Bcd
  /-- `idx` of the DisplayScanner, R44. -/
  idx : BitVec 2
  /-- DB_SYNC's registers. -/
  sync : DbSync
  /-- DB_FILT's registers. -/
  filt : DbFilt
deriving DecidableEq, Repr

/-- The core has no fault state and raises no exception (R230, R232, R235): no step ends in a
fault, so there is no reason to name. -/
inductive Fault where
deriving DecidableEq, Repr

/-- Why a step is refused. -/
inductive Refusal where
  /-- Raised by exec's arm of an operation that has no meaning yet; no arm is left. Safe. -/
  | notModelled (mnemonic : String)
  /-- Raised by every step of a machine whose parameters R262 says a model refuses. Safe: R232
  names it as the only refusal, and no claim is made of such a machine. -/
  | illegalConfiguration
  /-- Raised by a step in which a sub-unit's vector selects no operation. Safe: the tables of R82 are
  total (R83), and no state reaches it. -/
  | noOperation (u : SubUnit)
deriving DecidableEq, Repr

/-- The core at power-on and after RESET with parameters `c` (R53, R261), every input port at 0
(R92) and no stimulus loaded. -/
def State.resetOf (c : Config) : State :=
  { cfg := c
    inp := Inputs.zero
    script := []
    drawn := 0
    tick := c.tick.init
    dispTick := c.dispTick.init
    ctl := { state := .idle, div := c.spiDiv, edges := 2 * c.spiW, sclk := false }
    tx := 0
    rx := 0
    sclkQ := false
    bcd := { work := 0, acc := 0, cnt := 0, active := false, fix := false, out := 0 }
    idx := 0
    sync := { s1 := c.debInit, s2 := c.debInit }
    filt := { stable := c.debInit, cnt := 0, up := false, down := false } }

/-- The machine right after reset, in the reference configuration (R9; log 6). -/
def State.reset : State := State.resetOf Config.reference

end Sys2Proof.Machine
end

