-- ==== Sys2Proof/Machine/Ops.lean ====
section
/-! DEFINITION. The named operations over the registers. The core has no memory (20_memory.md R60)
and takes no exception (60_exceptions.md R230, R235, R236), so there is no memory operation and no
exception entry or return here. Every register is written by one sub-unit (R72, R81): a write
replaces one sub-unit's group, and `State.adopt` takes one sub-unit's group from another state,
which is how a cycle commits (R70). -/

namespace Sys2Proof.Machine

/-- The answer of a meaning and of a step. -/
abbrev Result := Host.Outcome State Fault Refusal

/-- The counter of one TickGenerator instance (R30, R44). -/
def State.tickCnt (s : State) : TickInst → Nat
  | .standalone => s.tick
  | .display => s.dispTick

/-- `cnt <- v` in one TickGenerator instance. -/
def State.setTick (s : State) (t : TickInst) (v : Nat) : State :=
  match t with
  | .standalone => { s with tick := v }
  | .display => { s with dispTick := v }

/-- The writes of SPI_CTL. -/
def State.setCtl (s : State) (v : SpiCtl) : State := { s with ctl := v }

/-- `tx <- v`. -/
def State.setTx (s : State) (v : Nat) : State := { s with tx := v }

/-- `rx <- v`. -/
def State.setRx (s : State) (v : Nat) : State := { s with rx := v }

/-- `sclk_q <- v`. -/
def State.setSclkQ (s : State) (v : Bool) : State := { s with sclkQ := v }

/-- The writes of BCD. -/
def State.setBcd (s : State) (v : Bcd) : State := { s with bcd := v }

/-- `idx <- v`. -/
def State.setIdx (s : State) (v : BitVec 2) : State := { s with idx := v }

/-- The writes of DB_SYNC. -/
def State.setSync (s : State) (v : DbSync) : State := { s with sync := v }

/-- The writes of DB_FILT. -/
def State.setFilt (s : State) (v : DbFilt) : State := { s with filt := v }

/-- Every register at its reset value; parameters and input levels stay (R53, R260). -/
def State.resetRegisters (s : State) : State :=
  let r := State.resetOf s.cfg
  { s with tick := r.tick, dispTick := r.dispTick, ctl := r.ctl, tx := r.tx, rx := r.rx,
           sclkQ := r.sclkQ, bcd := r.bcd, idx := r.idx, sync := r.sync, filt := r.filt }

/-- `s` with the registers that sub-unit `u` writes (R81) as they are in `t`; BLOCK writes them all. -/
def State.adopt (s : State) (u : SubUnit) (t : State) : State :=
  match u with
  | .block => { s with tick := t.tick, dispTick := t.dispTick, ctl := t.ctl, tx := t.tx, rx := t.rx,
                       sclkQ := t.sclkQ, bcd := t.bcd, idx := t.idx, sync := t.sync,
                       filt := t.filt }
  | .tg i => s.setTick i (t.tickCnt i)
  | .spiCtl => s.setCtl t.ctl
  | .spiTx => s.setTx t.tx
  | .spiRx => s.setRx t.rx
  | .spiDly => s.setSclkQ t.sclkQ
  | .bcd => s.setBcd t.bcd
  | .ds => s.setIdx t.idx
  | .dbSync => s.setSync t.sync
  | .dbFilt => s.setFilt t.filt

/-- The next cycle's input levels: the script's next entry, and a free draw of the environment once
the script is used up (R243, R244; log 4, log 5). -/
def State.advance (s : State) : State :=
  match s.script with
  | i :: rest => { s with inp := i, script := rest }
  | [] => { s with inp := Config.draw s.drawn, drawn := s.drawn + 1 }

/-- The environment puts the levels `i` on the input ports for this cycle. -/
def State.drive (s : State) (i : Inputs) : State := { s with inp := i }

end Sys2Proof.Machine
end

