-- ==== Sys2Proof/Machine/Operands.lean ====
section
/-! DEFINITION. What the operations read: the input ports at their full width (10_state.md R24 to
R29). A port is sampled, never consumed (R67). -/

namespace Sys2Proof.Machine

/-- `in.rst` (R24). -/
def State.inRst (s : State) : Bool := s.inp.rst

/-- `in.en` (R26). -/
def State.inEn (s : State) : Bool := s.inp.en

/-- `in.miso` (R26). -/
def State.inMiso (s : State) : Bool := s.inp.miso

/-- `in.cmd`, `SPI_W` bits (R26; log 14). -/
def State.inCmd (s : State) : Nat := cut s.cfg.spiW s.inp.cmd

/-- `in.enable` (R27). -/
def State.inEnable (s : State) : Bool := s.inp.enable

/-- `in.din`, `BCD_W` bits (R27; log 14). -/
def State.inDin (s : State) : Nat := cut s.cfg.bcdW s.inp.din

/-- `in.digits` (R28). -/
def State.inDigits (s : State) : Packed := s.inp.digits

/-- `in.a_in` (R29). Metastability is the environment's choice of this bit (R220). -/
def State.inA (s : State) : Bool := s.inp.aIn

end Sys2Proof.Machine
end

