-- ==== Sys2Proof/Machine/Flags.lean ====
section
/-! DEFINITION. The combinational signals of the units, computed in every cycle from the registers
before the commit and the cycle's inputs (00_scope.md R11): 10_state.md R46 to R50,
41_spi_master.md R121, 42_bcd_converter.md R171, 44_edge_synchronizer.md R210. -/

namespace Sys2Proof.Machine

/-- `stb := (cnt == 0)` of a TickGenerator instance (R49, R100). -/
def State.stb (s : State) (t : TickInst) : Bool := s.tickCnt t == 0

/-- `st := (state == TRANSFER)`, which is `busy` and `cs_active` (R46, R121). -/
def State.spiBusy (s : State) : Bool := s.ctl.state == .transfer

/-- `done := !busy` (R46). -/
def State.spiDone (s : State) : Bool := !s.spiBusy

/-- `dz := (div == 0)` (R81). -/
def State.divZero (s : State) : Bool := s.ctl.div == 0

/-- `e1 := (edges == 1)` (R81). -/
def State.edgesOne (s : State) : Bool := s.ctl.edges == 1

/-- `rise := sclk & !sclk_q` (R47). -/
def State.rise (s : State) : Bool := s.ctl.sclk && !s.sclkQ

/-- `fall := !sclk & sclk_q` (R47). -/
def State.fall (s : State) : Bool := !s.ctl.sclk && s.sclkQ

/-- `cap`, the edge pulse that captures `miso` (R47). -/
def State.cap (s : State) : Bool :=
  match s.cfg.captureEdge with
  | .rise => s.rise
  | .fall => s.fall

/-- `shp`, the edge pulse that shifts `tx` (R47). -/
def State.shp (s : State) : Bool :=
  match s.cfg.captureEdge with
  | .rise => s.fall
  | .fall => s.rise

/-- `start := (state == IDLE) & in.en` (R81, R137). -/
def State.start (s : State) : Bool := s.ctl.state == .idle && s.inEn

/-- `ge5_i := (n_i >= 5)` (R171). -/
def ge5 (n : Nibble) : Bool := decide (5 ≤ n.toNat)

/-- `any5 := ge5_0 | ge5_1 | ge5_2 | ge5_3` (R171). -/
def any5 (acc : Packed) : Bool :=
  ge5 (nibble acc 0) || ge5 (nibble acc 1) || ge5 (nibble acc 2) || ge5 (nibble acc 3)

/-- `corr := any5 & !fix` (R171). -/
def State.corr (s : State) : Bool := any5 s.bcd.acc && !s.bcd.fix

/-- `c1 := (cnt == 1)` of the BcdConverter (R81). -/
def State.bcdCntOne (s : State) : Bool := s.bcd.cnt == 1

/-- `differs := (s2 != stable)` (R210). -/
def State.differs (s : State) : Bool := s.sync.s2 != s.filt.stable

/-- `full := (cnt == DEB_N - 1)` (R210). -/
def State.full (s : State) : Bool := s.filt.cnt == s.cfg.debFull

/-- The condition vector of a sub-unit (R81). -/
def State.vector (s : State) : SubUnit → Vec
  | .block => vec s.inRst false false false
  | .tg t => vec (s.stb t) false false false
  | .spiCtl => vec s.inEn s.spiBusy s.divZero s.edgesOne
  | .spiTx => vec s.start s.shp false false
  | .spiRx => vec s.cap false false false
  | .spiDly => vec false false false false
  | .bcd => vec s.inEnable s.bcd.active s.corr s.bcdCntOne
  | .ds => vec (s.stb .display) false false false
  | .dbSync => vec false false false false
  | .dbFilt => vec s.differs s.full s.sync.s2 false

/-- The operation a sub-unit performs in this cycle (R80). -/
def State.operation (s : State) (u : SubUnit) : Except Reject Instr := decode u (s.vector u)

end Sys2Proof.Machine
end

