-- ==== Sys2Proof/Machine/BcdConv.lean ====
section
/-! DEFINITION. The operations of the BcdConverter (42_bcd_converter.md R170 to R175). -/

namespace Sys2Proof.Machine

/-- BCD_START (R170): latch `din` and begin, or restart; `out` is kept. -/
def execBcdStart (s : State) : Result :=
  .next (s.setBcd { work := s.inDin, acc := 0, cnt := s.cfg.bcdW, active := true, fix := false,
                    out := s.bcd.out })

/-- BCD_IDLE (R175): every register unchanged. -/
def execBcdIdle (s : State) : Result := .next (s.setBcd s.bcd)

/-- One digit's correction: `ge5_i ? min(n_i + 3, 15) : n_i` (R172). -/
def add3Digit (n : Nibble) : Nibble :=
  if ge5 n then BitVec.ofNat 4 (min (n.toNat + 3) 15) else n

/-- The correction of every digit at once, with no carry between digits (R172). -/
def add3 (acc : Packed) : Packed :=
  packNibbles (add3Digit (nibble acc 0)) (add3Digit (nibble acc 1)) (add3Digit (nibble acc 2))
    (add3Digit (nibble acc 3))

/-- BCD_ADD3 (R172): correct the digits, `fix <- 1`. -/
def execBcdAdd3 (s : State) : Result :=
  .next (s.setBcd { s.bcd with acc := add3 s.bcd.acc, fix := true })

/-- `({acc, work} << 1)[16+BCD_W-1 : 0]` as a number, for `work` of `w` bits (R173). -/
def shiftedJoint (w : Nat) (b : Bcd) : Nat := cut (16 + w) (2 * (b.acc.toNat * 2 ^ w + cut w b.work))

/-- The accumulator half of the joint shift, bits `[16+BCD_W-1 : BCD_W]` (R173, R174). -/
def shiftedAcc (w : Nat) (b : Bcd) : Packed := BitVec.ofNat 16 (shiftedJoint w b / 2 ^ w)

/-- The working half of the joint shift, bits `[BCD_W-1 : 0]` (R173). -/
def shiftedWork (w : Nat) (b : Bcd) : Nat := cut w (shiftedJoint w b)

/-- BCD_SHIFT (R173): shift one source bit in, `fix <- 0; cnt <- cnt - 1`. -/
def execBcdShift (s : State) : Result :=
  .next (s.setBcd { s.bcd with acc := shiftedAcc s.cfg.bcdW s.bcd,
                               work := shiftedWork s.cfg.bcdW s.bcd, fix := false,
                               cnt := decAt s.cfg.bcdCntWidth s.bcd.cnt })

/-- BCD_LAST_SHIFT (R174): the final shift; the shifted accumulator is latched into `out` in the same
commit, and the converter goes idle. -/
def execBcdLastShift (s : State) : Result :=
  .next (s.setBcd { work := shiftedWork s.cfg.bcdW s.bcd, acc := shiftedAcc s.cfg.bcdW s.bcd,
                    cnt := 0, active := false, fix := false,
                    out := shiftedAcc s.cfg.bcdW s.bcd })

end Sys2Proof.Machine
end

