-- ==== Sys2Proof/Machine/Block.lean ====
section
/-! DEFINITION. The operation of BLOCK (70_reset_and_hazards.md R260). -/

namespace Sys2Proof.Machine

/-- RESET (R260): every register of every unit takes its reset value; every input but `rst` is
ignored. -/
def execReset (s : State) : Result := .next s.resetRegisters

end Sys2Proof.Machine
end

