-- ==== Sys2Proof/Machine/Debounce.lean ====
section
/-! DEFINITION. The operations of the EdgeSynchronizer's two sub-units (44_edge_synchronizer.md R211
to R215). -/

namespace Sys2Proof.Machine

/-- DB_SYNC_SHIFT (R211): `s1 <- in.a_in; s2 <- s1`. -/
def execDbSyncShift (s : State) : Result := .next (s.setSync { s1 := s.inA, s2 := s.sync.s1 })

/-- DB_MATCH (R212): `cnt <- 0; up <- 0; down <- 0`; `stable` is kept. -/
def execDbMatch (s : State) : Result :=
  .next (s.setFilt { stable := s.filt.stable, cnt := 0, up := false, down := false })

/-- DB_COUNT (R213): `cnt <- cnt + 1; up <- 0; down <- 0`; `stable` is kept. -/
def execDbCount (s : State) : Result :=
  .next (s.setFilt { stable := s.filt.stable, cnt := incAt s.cfg.debWidth s.filt.cnt, up := false,
                     down := false })

/-- DB_FLIP_UP (R214): `stable <- 1; cnt <- 0; up <- 1; down <- 0`. -/
def execDbFlipUp (s : State) : Result :=
  .next (s.setFilt { stable := true, cnt := 0, up := true, down := false })

/-- DB_FLIP_DOWN (R215): `stable <- 0; cnt <- 0; up <- 0; down <- 1`. With `DEB_N = 1` it follows
DB_FLIP_UP in the very next cycle when the input was high for one cycle only, as the pseudocode and
the traces of R221 and V-DB-4 have it; R218's "2 cycles later it flips back" is not followed
(log 23). -/
def execDbFlipDown (s : State) : Result :=
  .next (s.setFilt { stable := false, cnt := 0, up := false, down := true })

end Sys2Proof.Machine
end

