-- ==== Sys2Proof/Machine/Display.lean ====
section
/-! DEFINITION. The operations of the DisplayScanner's sub-unit DS (43_display_scanner.md R193,
R194). -/

namespace Sys2Proof.Machine

/-- DS_ADVANCE (R193): `idx <- (idx + 1) mod 4`. -/
def execDsAdvance (s : State) : Result := .next (s.setIdx (s.idx + 1))

/-- DS_HOLD (R194): `idx` unchanged. -/
def execDsHold (s : State) : Result := .next (s.setIdx s.idx)

end Sys2Proof.Machine
end

