-- ==== Sys2Proof/Machine/Spi.lean ====
section
/-! DEFINITION. The operations of the SpiMaster's four sub-units (41_spi_master.md R130 to R143). -/

namespace Sys2Proof.Machine

/-- SPI_CTL's registers with the bus clock low and the divider and edge counter as IDLE holds them
(R130, R131), in the SpiMaster state `st`. -/
def spiRest (c : Config) (st : SpiState) : SpiCtl :=
  { state := st, div := c.spiDiv, edges := c.spiEdges, sclk := false }

/-- SPI_IDLE (R130): `sclk <- 0; div <- SPI_DIV; edges <- 2*SPI_W`; `state` is kept. -/
def execSpiIdle (s : State) : Result := .next (s.setCtl (spiRest s.cfg s.ctl.state))

/-- SPI_START (R131): as SPI_IDLE, and `state <- TRANSFER`. SPI_LOAD latches the command word in the
same cycle (R137). -/
def execSpiStart (s : State) : Result := .next (s.setCtl (spiRest s.cfg .transfer))

/-- SPI_WAIT (R132): `div <- div - 1`. -/
def execSpiWait (s : State) : Result :=
  .next (s.setCtl { s.ctl with div := decAt s.cfg.divWidth s.ctl.div })

/-- SPI_TOGGLE (R133): `div <- SPI_DIV; sclk <- !sclk; edges <- edges - 1`. -/
def execSpiToggle (s : State) : Result :=
  .next (s.setCtl { s.ctl with div := s.cfg.spiDiv, sclk := !s.ctl.sclk,
                               edges := decAt s.cfg.edgeWidth s.ctl.edges })

/-- SPI_LAST_TOGGLE (R134): `div <- SPI_DIV; sclk <- !sclk; edges <- 0; state <- IDLE`. -/
def execSpiLastToggle (s : State) : Result :=
  .next (s.setCtl { state := .idle, div := s.cfg.spiDiv, edges := 0, sclk := !s.ctl.sclk })

/-- SPI_LOAD (R137): `tx <- in.cmd`. -/
def execSpiLoad (s : State) : Result := .next (s.setTx s.inCmd)

/-- SPI_SHIFT_OUT (R138): `tx <- (tx << 1)[SPI_W-1:0]`, filling 0. -/
def execSpiShiftOut (s : State) : Result := .next (s.setTx (shiftIn s.cfg.spiW s.tx false))

/-- SPI_TX_HOLD (R139): `tx` unchanged. -/
def execSpiTxHold (s : State) : Result := .next (s.setTx s.tx)

/-- SPI_CAPTURE (R141): `rx <- {rx[SPI_W-2:0], in.miso}`. -/
def execSpiCapture (s : State) : Result := .next (s.setRx (shiftIn s.cfg.spiW s.rx s.inMiso))

/-- SPI_RX_HOLD (R142): `rx` unchanged. -/
def execSpiRxHold (s : State) : Result := .next (s.setRx s.rx)

/-- SPI_CLK_DELAY (R143): `sclk_q <- sclk`. -/
def execSpiClkDelay (s : State) : Result := .next (s.setSclkQ s.ctl.sclk)

end Sys2Proof.Machine
end

