-- ==== Sys2Proof/Machine/Tick.lean ====
section
/-! DEFINITION. The operations of a TickGenerator instance (40_tick_generator.md R105, R106). The
strobe `stb` is an output (R100), not a register. -/

namespace Sys2Proof.Machine

/-- TG_STROBE (R105): `cnt <- TICK_R`. -/
def execTgStrobe (t : TickInst) (s : State) : Result :=
  .next (s.setTick t (s.cfg.tickParams t).reload)

/-- TG_COUNT (R106): `cnt <- cnt - 1`. -/
def execTgCount (t : TickInst) (s : State) : Result :=
  .next (s.setTick t (decAt (s.cfg.tickParams t).width (s.tickCnt t)))

end Sys2Proof.Machine
end

