-- ==== Sys2Proof/Machine/Dispatch.lean ====
section
/-! DEFINITION. The meaning of each operation of 30_encoding.md R82: one arm per constructor. exec
performs the operation's writes; that the sub-unit's vector selects it is the step's part (log 11). -/

namespace Sys2Proof.Machine

def exec (i : Instr) (s : State) : Host.Outcome State Fault Refusal :=
  match i with
  | .reset => Sys2Proof.Machine.execReset s
  | .tgStrobe t => Sys2Proof.Machine.execTgStrobe t s
  | .tgCount t => Sys2Proof.Machine.execTgCount t s
  | .spiIdle => Sys2Proof.Machine.execSpiIdle s
  | .spiStart => Sys2Proof.Machine.execSpiStart s
  | .spiWait => Sys2Proof.Machine.execSpiWait s
  | .spiToggle => Sys2Proof.Machine.execSpiToggle s
  | .spiLastToggle => Sys2Proof.Machine.execSpiLastToggle s
  | .spiLoad => Sys2Proof.Machine.execSpiLoad s
  | .spiShiftOut => Sys2Proof.Machine.execSpiShiftOut s
  | .spiTxHold => Sys2Proof.Machine.execSpiTxHold s
  | .spiCapture => Sys2Proof.Machine.execSpiCapture s
  | .spiRxHold => Sys2Proof.Machine.execSpiRxHold s
  | .spiClkDelay => Sys2Proof.Machine.execSpiClkDelay s
  | .bcdStart => Sys2Proof.Machine.execBcdStart s
  | .bcdIdle => Sys2Proof.Machine.execBcdIdle s
  | .bcdAdd3 => Sys2Proof.Machine.execBcdAdd3 s
  | .bcdShift => Sys2Proof.Machine.execBcdShift s
  | .bcdLastShift => Sys2Proof.Machine.execBcdLastShift s
  | .dsAdvance => Sys2Proof.Machine.execDsAdvance s
  | .dsHold => Sys2Proof.Machine.execDsHold s
  | .dbSyncShift => Sys2Proof.Machine.execDbSyncShift s
  | .dbMatch => Sys2Proof.Machine.execDbMatch s
  | .dbCount => Sys2Proof.Machine.execDbCount s
  | .dbFlipUp => Sys2Proof.Machine.execDbFlipUp s
  | .dbFlipDown => Sys2Proof.Machine.execDbFlipDown s

end Sys2Proof.Machine
end

