-- ==== Sys2Proof/Machine/Cycle.lean ====
section
/-! DEFINITION. One clock cycle of the whole core (00_scope.md R11, 20_memory.md R70, 30_encoding.md
R80): every sub-unit's operation is chosen and performed from the registers before the commit, and
every sub-unit's registers are then taken over at once. -/

namespace Sys2Proof.Machine

/-- The sub-units that perform an operation of their own in a cycle with `rst = 0` (R80, R81). -/
def workingSubUnits : List SubUnit :=
  [.tg .standalone, .tg .display, .spiCtl, .spiTx, .spiRx, .spiDly, .bcd, .ds, .dbSync, .dbFilt]

/-- One sub-unit's operation in the cycle `pre`, its registers committed into `acc` (R70, R81). -/
def commitUnit (pre acc : State) (u : SubUnit) : Result :=
  match pre.operation u with
  | .error _ => .refused (.noOperation u)
  | .ok i =>
    match exec i pre with
    | .next t => .next (acc.adopt u t)
    | .fault r => .fault r
    | .refused r => .refused r

/-- The commits of a list of sub-units. Each reads `pre` only, so their order does not matter
(R70, R242). -/
def commitUnits (pre : State) : List SubUnit → State → Result
  | [], acc => .next acc
  | u :: us, acc =>
    match commitUnit pre acc u with
    | .next acc' => commitUnits pre us acc'
    | .fault r => .fault r
    | .refused r => .refused r

/-- The registers' part of a cycle: RESET in every unit when `rst = 1` (R234, R260), and otherwise one
operation of each sub-unit. -/
def commitCycle (s : State) : Result :=
  match s.operation .block with
  | .ok i => exec i s
  | .error _ => commitUnits s workingSubUnits s

/-- One cycle: the commit, and the environment's levels for the next cycle. A machine with parameters
that R262 refuses takes no step. -/
def runCycle (s : State) : Result :=
  if s.cfg.wellFormed then
    match commitCycle s with
    | .next t => .next t.advance
    | .fault r => .fault r
    | .refused r => .refused r
  else .refused .illegalConfiguration

end Sys2Proof.Machine
end

