-- ==== Sys2Proof/Machine/Arrange.lean ====
section
/-! DEFINITION. A state in which the next cycle performs a given operation. The core fetches nothing
(20_memory.md R61): an operation runs when its sub-unit's condition vector (30_encoding.md R81) selects
it, so `State.arrange` sets exactly the input levels and registers that the vector is computed from
(log 3). -/

namespace Sys2Proof.Machine

/-- `x`, or `y` where `x` is the value `bad`. -/
def avoid (bad x y : Nat) : Nat := if x = bad then y else x

/-- The registers `sclk` and `sclk_q` set so that the given edge pulse is 1 (R47). -/
def State.setEdge (s : State) (e : Edge) : State :=
  match e with
  | .rise => { s with ctl := { s.ctl with sclk := true }, sclkQ := false }
  | .fall => { s with ctl := { s.ctl with sclk := false }, sclkQ := true }

/-- `s` with port `rst` at the level `v`. -/
def State.withRst (s : State) (v : Bool) : State := { s with inp := { s.inp with rst := v } }

/-- `s` with port `en` at `v` and the SpiMaster in `st`. -/
def State.withRequest (s : State) (st : SpiState) (v : Bool) : State :=
  { s with inp := { s.inp with en := v }, ctl := { s.ctl with state := st } }

/-- `s` with port `enable` at `v` and the BcdConverter's `active` at `a`. -/
def State.withEnable (s : State) (v a : Bool) : State :=
  { s with inp := { s.inp with enable := v }, bcd := { s.bcd with active := a } }

/-- `s`, changed only where it must be for the next cycle to perform `i`. -/
def State.arrange (s : State) (i : Instr) : State :=
  match i with
  | .reset => s.withRst true
  | .tgStrobe t => (s.withRst false).setTick t 0
  | .tgCount t => (s.withRst false).setTick t (avoid 0 (s.tickCnt t) 1)
  | .spiIdle => (s.withRst false).withRequest .idle false
  | .spiStart => (s.withRst false).withRequest .idle true
  | .spiWait =>
    let r := s.withRst false
    r.setCtl { r.ctl with state := .transfer, div := avoid 0 r.ctl.div 1 }
  | .spiToggle =>
    let r := s.withRst false
    r.setCtl { r.ctl with state := .transfer, div := 0, edges := avoid 1 r.ctl.edges 2 }
  | .spiLastToggle =>
    let r := s.withRst false
    r.setCtl { r.ctl with state := .transfer, div := 0, edges := 1 }
  | .spiLoad => (s.withRst false).withRequest .idle true
  | .spiShiftOut => ((s.withRst false).withRequest s.ctl.state false).setEdge s.cfg.shiftEdge
  | .spiTxHold => ((s.withRst false).withRequest s.ctl.state false).setSclkQ s.ctl.sclk
  | .spiCapture => (s.withRst false).setEdge s.cfg.captureEdge
  | .spiRxHold => (s.withRst false).setSclkQ s.ctl.sclk
  | .spiClkDelay => s.withRst false
  | .bcdStart => (s.withRst false).withEnable true s.bcd.active
  | .bcdIdle => (s.withRst false).withEnable false false
  | .bcdAdd3 =>
    let r := (s.withRst false).withEnable false true
    r.setBcd { r.bcd with fix := false, acc := if any5 r.bcd.acc then r.bcd.acc else 5 }
  | .bcdShift =>
    let r := (s.withRst false).withEnable false true
    r.setBcd { r.bcd with fix := any5 r.bcd.acc, cnt := avoid 1 r.bcd.cnt 2 }
  | .bcdLastShift =>
    let r := (s.withRst false).withEnable false true
    r.setBcd { r.bcd with fix := any5 r.bcd.acc, cnt := 1 }
  | .dsAdvance => (s.withRst false).setTick .display 0
  | .dsHold => (s.withRst false).setTick .display (avoid 0 s.dispTick 1)
  | .dbSyncShift => s.withRst false
  | .dbMatch => let r := s.withRst false; r.setSync { r.sync with s2 := r.filt.stable }
  | .dbCount =>
    let r := (s.withRst false).setSync { s.sync with s2 := !s.filt.stable }
    r.setFilt { r.filt with cnt := avoid r.cfg.debFull r.filt.cnt (avoid r.cfg.debFull 0 1) }
  | .dbFlipUp =>
    let r := (s.withRst false).setSync { s.sync with s2 := true }
    r.setFilt { r.filt with stable := false, cnt := r.cfg.debFull }
  | .dbFlipDown =>
    let r := (s.withRst false).setSync { s.sync with s2 := false }
    r.setFilt { r.filt with stable := true, cnt := r.cfg.debFull }

/-- The state in which the next cycle performs the operation that the decoder reads from the table's
word; unchanged where the decoder reads none (log 3). -/
def State.arrangeWord (s : State) (nbits w : Nat) : State :=
  match decodeTableWord nbits w with
  | some i => s.arrange i
  | none => s

end Sys2Proof.Machine
end

