-- ==== Sys2Proof/Machine/Outputs.lean ====
section
/-! DEFINITION. The output ports during one cycle (10_state.md R25 to R29; 41_spi_master.md R121;
42_bcd_converter.md R161; 43_display_scanner.md R196; 44_edge_synchronizer.md R210). Every output but
`seg` is a function of registers alone (R71). -/

namespace Sys2Proof.Machine

/-- The levels at the output ports of the core. -/
structure Outputs where
  /-- The TickGenerator's `stb`, R25. -/
  stb : Bool
  sclk : Bool
  cs : Bool
  mosi : Bool
  /-- `resp`, `SPI_W` bits. -/
  resp : Nat
  spiBusy : Bool
  spiDone : Bool
  bcdBusy : Bool
  dout : Packed
  seg : Segments
  dig : DigitLines
  stable : Bool
  upStb : Bool
  downStb : Bool
deriving DecidableEq, Repr

/-- `cs := cs_active ^ CS_ACTIVE_LOW` (R121). -/
def State.csPin (s : State) : Bool := xor s.spiBusy s.cfg.csActiveLow

/-- `mosi := tx[SPI_W-1]` (R121). -/
def State.mosi (s : State) : Bool := s.tx.testBit (s.cfg.spiW - 1)

/-- `nib`, the digit that `idx` selects (R196). -/
def State.selectedNibble (s : State) : Nibble := nibble s.inDigits s.idx.toNat

/-- `seg_lit := SEG_TABLE[nib]` (R196). -/
def State.segLit (s : State) : Segments := s.cfg.segments s.selectedNibble

/-- `dig_on := 1 << idx` (R196). -/
def State.digOn (s : State) : DigitLines := (1 : DigitLines) <<< s.idx.toNat

/-- The segment pins (R196). -/
def State.segPins (s : State) : Segments := if s.cfg.segActiveLow then ~~~s.segLit else s.segLit

/-- The digit-enable pins (R196). -/
def State.digPins (s : State) : DigitLines := if s.cfg.digActiveLow then ~~~s.digOn else s.digOn

/-- The output ports in this cycle. -/
def State.outputs (s : State) : Outputs :=
  { stb := s.stb .standalone
    sclk := s.ctl.sclk
    cs := s.csPin
    mosi := s.mosi
    resp := s.rx
    spiBusy := s.spiBusy
    spiDone := s.spiDone
    bcdBusy := s.bcd.active
    dout := s.bcd.out
    seg := s.segPins
    dig := s.digPins
    stable := s.filt.stable
    upStb := s.filt.up
    downStb := s.filt.down }

end Sys2Proof.Machine
end

