-- ==== Sys2Proof/Machine/Stimulus.lean ====
section
/-! DEFINITION. The encoding of a stimulus: the per-cycle input words of 30_encoding.md R84, the SPI
command word of R85 and R86, and the stimulus scripts of R92. They stand outside the core: the
environment composes them (R244). -/

namespace Sys2Proof.Machine

/-- The input words of one cycle's levels (R84). -/
def encodeInputs (c : Config) (i : Inputs) : InputWords :=
  { block := i.rst.toNat
    spi := i.en.toNat + 2 * i.miso.toNat + 4 * cut c.spiW i.cmd
    bcd := i.enable.toNat + 2 * cut c.bcdW i.din
    ds := i.digits.toNat
    db := i.aIn.toNat }

/-- The levels of one cycle's input words (R84); bits above a word's width are ignored. -/
def decodeInputs (c : Config) (w : InputWords) : Inputs :=
  { rst := w.block.testBit 0
    en := w.spi.testBit 0
    miso := w.spi.testBit 1
    cmd := cut c.spiW (w.spi / 4)
    enable := w.bcd.testBit 0
    din := cut c.bcdW (w.bcd / 2)
    digits := BitVec.ofNat 16 w.ds
    aIn := w.db.testBit 0 }

/-- The 24-bit command word for a channel: `{7'b0, 1'b1, 1'b1, chan[2:0], 12'b0}` (R85; log 18). -/
def commandWord (chan : BitVec 3) : BitVec 24 :=
  (0 : BitVec 7) ++ (1 : BitVec 1) ++ (1 : BitVec 1) ++ chan ++ (0 : BitVec 12)

/-- The bits of a word of `w` bits as they leave on the wire, most significant first (R62, R86). -/
def wireBits (w v : Nat) : List Bool := (List.range w).map (fun k => v.testBit (w - 1 - k))

/-- One port's level replaced (R92). -/
def applyPort (i : Inputs) : PortValue → Inputs
  | .rst v => { i with rst := v }
  | .en v => { i with en := v }
  | .miso v => { i with miso := v }
  | .cmd v => { i with cmd := v }
  | .enable v => { i with enable := v }
  | .din v => { i with din := v }
  | .digits v => { i with digits := v }
  | .aIn v => { i with aIn := v }

/-- The input levels of cycle `t` of a script: an input not yet set holds 0, and keeps its value until a
later line sets it again (R92). R92 does not say whether "later" is later in the text or in cycles: that
the lines with a cycle of at most `t` apply in the order written, the last one written winning, is the
model's choice (log 24). For lines in rising order of cycles the two readings agree. -/
def scriptInputs (lines : List StimulusLine) (t : Nat) : Inputs :=
  (lines.filter (fun l => decide (l.cycle ≤ t))).foldl
    (fun i l => l.sets.foldl applyPort i) Inputs.zero

/-- `s` with the first `n` cycles of a script on its input ports, from this cycle on (R92). -/
def State.load (s : State) (lines : List StimulusLine) (n : Nat) : State :=
  { s with inp := scriptInputs lines 0
           script := (List.range (n - 1)).map (fun t => scriptInputs lines (t + 1)) }

end Sys2Proof.Machine
end

