-- ==== Sys2Proof/Machine/Step.lean ====
section
/-! DEFINITION. The step of the machine, one clock cycle of the whole core (20_memory.md R70,
60_exceptions.md R242), and the host's entry for one word of the opcode table. -/

namespace Sys2Proof.Machine

/-- One cycle (Machine/Cycle.lean). -/
def step (s : State) : Host.Outcome State Fault Refusal := runCycle s

/-- `s`, set so that the very next cycle performs the operation that the decoder reads from the word
(Machine/Arrange.lean; log 3). -/
def State.withFetchWord (s : State) (nbits w : Nat) : State := s.arrangeWord nbits w

end Sys2Proof.Machine
end

