-- ==== Sys2Proof/Machine/Rtl.lean ====
section
/-! DEFINITION. A second description of a cycle, unit by unit as a chain of priorities, without the
decode tables: the conditions of 40_tick_generator.md R104, 41_spi_master.md R122, 42_bcd_converter.md
R162 and 43_display_scanner.md R192 and the priorities of 60_exceptions.md R234. The step does not use
it; an obligation states that the step agrees with it. -/

namespace Sys2Proof.Machine

/-- A TickGenerator's next counter (R105, R106). -/
def nextTick (p : TickParams) (cnt : Nat) : Nat := if cnt = 0 then p.reload else decAt p.width cnt

/-- SPI_CTL's next registers (R122, R130 to R134). -/
def nextCtl (c : Config) (en : Bool) (r : SpiCtl) : SpiCtl :=
  match r.state with
  | .idle =>
    { state := if en then .transfer else .idle, div := c.spiDiv, edges := c.spiEdges,
      sclk := false }
  | .transfer =>
    if r.div ≠ 0 then { r with div := decAt c.divWidth r.div }
    else if r.edges = 1 then
      { state := .idle, div := c.spiDiv, edges := 0, sclk := !r.sclk }
    else
      { r with div := c.spiDiv, edges := decAt c.edgeWidth r.edges, sclk := !r.sclk }

/-- The next `tx`: a load beats a shift (R137 to R139, R234). -/
def nextTx (s : State) : Nat :=
  if s.start then s.inCmd
  else if s.shp then shiftIn s.cfg.spiW s.tx false
  else s.tx

/-- The next `rx`: a capture is taken in any state (R141, R142, R234). -/
def nextRx (s : State) : Nat := if s.cap then shiftIn s.cfg.spiW s.rx s.inMiso else s.rx

/-- The BcdConverter's next registers when it is not started in this cycle (R162, R172 to R175). -/
def nextConversion (c : Config) (r : Bcd) : Bcd :=
  if !r.active then r
  else if any5 r.acc && !r.fix then
    { r with
      acc := packNibbles (bump (nibble r.acc 0)) (bump (nibble r.acc 1)) (bump (nibble r.acc 2))
        (bump (nibble r.acc 3))
      fix := true }
  else
    let joint : Nat := 2 * (r.acc.toNat * 2 ^ c.bcdW + cut c.bcdW r.work)
    let acc : Packed := BitVec.ofNat 16 (joint / 2 ^ c.bcdW)
    let work := cut c.bcdW joint
    if r.cnt = 1 then
      { work := work, acc := acc, cnt := 0, active := false, fix := false, out := acc }
    else { r with work := work, acc := acc, cnt := decAt c.bcdCntWidth r.cnt, fix := false }
where
  /-- A digit of 5 or more plus 3; R178 and 90_conflicts.md C9 allow the form that wraps for the
  digits that occur, and this is the form that saturates (R172). -/
  bump (n : Nibble) : Nibble := if 5 ≤ n.toNat then (if n.toNat ≤ 12 then n + 3 else 15) else n

/-- The BcdConverter's next registers: a start beats any step (R170, R234). -/
def nextBcd (s : State) : Bcd :=
  if s.inEnable then
    { work := s.inDin, acc := 0, cnt := s.cfg.bcdW, active := true, fix := false,
      out := s.bcd.out }
  else nextConversion s.cfg s.bcd

/-- DB_FILT's next registers (R212 to R215). -/
def nextFilt (c : Config) (s2 : Bool) (r : DbFilt) : DbFilt :=
  if s2 = r.stable then { stable := r.stable, cnt := 0, up := false, down := false }
  else if r.cnt = c.debN - 1 then { stable := s2, cnt := 0, up := s2, down := !s2 }
  else { stable := r.stable, cnt := incAt c.debWidth r.cnt, up := false, down := false }

/-- Every register after a cycle's commit. -/
def State.nextRegisters (s : State) : State :=
  if s.inRst then s.resetRegisters
  else
    { s with
      tick := nextTick s.cfg.tick s.tick
      dispTick := nextTick s.cfg.dispTick s.dispTick
      ctl := nextCtl s.cfg s.inEn s.ctl
      tx := nextTx s
      rx := nextRx s
      sclkQ := s.ctl.sclk
      bcd := nextBcd s
      idx := if s.dispTick = 0 then s.idx + 1 else s.idx
      sync := { s1 := s.inA, s2 := s.sync.s1 }
      filt := nextFilt s.cfg s.sync.s2 s.filt }

end Sys2Proof.Machine
end

