-- ==== Sys2Proof/Safety.lean ====
section
/-! DEFINITION. The terms that statements use: the invariant of the registers (40_tick_generator.md
R101, 41_spi_master.md R125, 42_bcd_converter.md R168 and R178, 44_edge_synchronizer.md R216,
10_state.md R50), and runs of cycles under given input levels. -/

namespace Sys2Proof.Machine

/-- A TickGenerator's counter is in its range (R101). -/
abbrev TickInv (p : TickParams) (cnt : Nat) : Prop := cnt ≤ max p.n 1 - 1

/-- The SpiMaster's registers are in their ranges (R125; widths of R36, R37). In TRANSFER the bus
clock is high when an odd number of edges is left; in IDLE it is low, and `edges` is `2*SPI_W`
but in the first cycle after a transfer, which is the one with `sclk_q = 1`, where it is 0. -/
abbrev SpiInv (s : State) : Prop :=
  s.ctl.div ≤ s.cfg.spiDiv ∧ s.tx < 2 ^ s.cfg.spiW ∧ s.rx < 2 ^ s.cfg.spiW ∧
  (s.ctl.state = .transfer →
    1 ≤ s.ctl.edges ∧ s.ctl.edges ≤ 2 * s.cfg.spiW ∧
      (s.ctl.sclk = true ↔ s.ctl.edges % 2 = 1)) ∧
  (s.ctl.state = .idle →
    s.ctl.sclk = false ∧
      (s.ctl.edges = 2 * s.cfg.spiW ∧ s.sclkQ = false ∨ s.ctl.edges = 0 ∧ s.sclkQ = true))

/-- What R178 says of a digit at the start of a step: at most 9 where no correction has been made,
and at most 4 or 8 to 12 after one. -/
abbrev DigitBound (fix : Bool) (n : Nibble) : Prop :=
  if fix then n.toNat ≤ 4 ∨ (8 ≤ n.toNat ∧ n.toNat ≤ 12) else n.toNat ≤ 9

/-- The BcdConverter's registers are in their ranges (R168, R178; width of R38). -/
abbrev BcdInv (s : State) : Prop :=
  s.bcd.work < 2 ^ s.cfg.bcdW ∧ s.bcd.cnt ≤ s.cfg.bcdW ∧
  (s.bcd.active = true → 1 ≤ s.bcd.cnt) ∧ (s.bcd.active = false → s.bcd.cnt = 0) ∧
  (s.bcd.active = true →
    DigitBound s.bcd.fix (nibble s.bcd.acc 0) ∧ DigitBound s.bcd.fix (nibble s.bcd.acc 1) ∧
      DigitBound s.bcd.fix (nibble s.bcd.acc 2) ∧ DigitBound s.bcd.fix (nibble s.bcd.acc 3))

/-- The EdgeSynchronizer's registers are in their ranges (R216), and a pulse goes with the level it
announces (R50). -/
abbrev DebInv (s : State) : Prop :=
  s.filt.cnt ≤ s.cfg.debN - 1 ∧ (s.filt.up = true → s.filt.stable = true) ∧
    (s.filt.down = true → s.filt.stable = false)

/-- The invariant of the core: legal parameters (R262), and every unit's registers in range. -/
abbrev Inv (s : State) : Prop :=
  s.cfg.wellFormed = true ∧ TickInv s.cfg.tick s.tick ∧ TickInv s.cfg.dispTick s.dispTick ∧
    SpiInv s ∧ BcdInv s ∧ DebInv s

/-- The input levels of the cycle `k` cycles after this one. They come from the environment alone and
depend on no register (R243). -/
def State.inputsAt (s : State) : Nat → Inputs
  | 0 => s.inp
  | k + 1 => s.advance.inputsAt k

/-- `k` cycles of the machine, stopping at the first refusal: Host.Core.run at this core
(Laws/Run.lean). -/
def runFor : Nat → State → Result
  | 0, s => .next s
  | k + 1, s =>
    match step s with
    | .next t => runFor k t
    | .fault r => .fault r
    | .refused r => .refused r

/-- `k` cycles run to their end, and the state then reached holds `P`. -/
def After (s : State) (k : Nat) (P : State → Prop) : Prop := ∃ t, runFor k s = .next t ∧ P t

/-- `rst = 0` in the first `n` cycles. -/
def NoReset (s : State) (n : Nat) : Prop := ∀ j, j < n → (s.inputsAt j).rst = false

/-- The cycle of capture `j` of a transfer accepted in cycle 0 (R146). -/
def captureCycle (c : Config) (j : Nat) : Nat :=
  match c.captureEdge with
  | .rise => (2 * j - 1) * c.spiHalf + 1
  | .fall => 2 * j * c.spiHalf + 1

/-- The SpiMaster is quiescent (60_exceptions.md R245). -/
def State.spiQuiescent (s : State) : Bool := !s.spiBusy && !s.inEn

/-- The BcdConverter is quiescent (R245). -/
def State.bcdQuiescent (s : State) : Bool := !s.bcd.active && !s.inEnable

/-- The EdgeSynchronizer is quiescent (R245). The TickGenerator and the DisplayScanner never are. -/
def State.debQuiescent (s : State) : Bool :=
  s.sync.s1 == s.inA && s.sync.s2 == s.inA && s.filt.stable == s.inA && s.filt.cnt == 0

/-- Decimal digit i of a number (R177). -/
def decimalDigit (v i : Nat) : Nat := v / 10 ^ i % 10

/-- Some one of the four lowest decimal digits is 5 or more. -/
def someDigit5 (v : Nat) : Bool :=
  decide (5 ≤ decimalDigit v 0) || decide (5 ≤ decimalDigit v 1) || decide (5 ≤ decimalDigit v 2) ||
    decide (5 ≤ decimalDigit v 3)

/-- `K` of R176 in terms of the source value alone: how many of the shifts 1 to W-1 leave a digit of
5 or more. After shift `k` the accumulator holds the top `k` bits of the value. -/
def corrections (w v : Nat) : Nat :=
  (List.range (w - 1)).countP (fun k => someDigit5 (v / 2 ^ (w - 1 - k)))

end Sys2Proof.Machine
end

