-- ==== Sys2Proof/Certificates/Slice0/Obligations.lean ====
section
/-! DEFINITION. The statements for the provers, from the numbered rules of spec/ (OBLIGATIONS.json lists
them). A cycle is one step (60_exceptions.md R242); a statement about a run starts in cycle 0. -/

open Sys2Proof Sys2Proof.Machine

/-! ### Encoding -/

/-- R83: every sub-unit's table is total and disjoint. BLOCK has the one row RESET (R82) and is not
among the tables R83 counts. -/
def Obligations.EveryVectorSelectsExactlyOneRow : Prop :=
  ∀ (u : SubUnit) (v : Vec), u ≠ .block → v.toNat < 2 ^ u.width →
    (u.rows.filter (fun r => r.applies v)).length = 1 ∧
      ∃ i, decode u v = .ok i ∧ i.subUnit = u

/-- R80, R82: an operation is decoded from its row's `match` whatever the bits the row ignores, those
are all the vectors that select it, and its tool word (log 1) decodes to it. -/
def Obligations.DecodeInvertsEncode : Prop :=
  ∀ i : Instr, i.wellFormed = true →
    (∀ free : Vec, ∃ v, encodeVector i free = some v ∧ decode i.subUnit v = .ok i) ∧
    (∀ v : Vec, decode i.subUnit v = .ok i → encodeVector i v = some v) ∧
    ∃ w, encodeWord i = some w ∧ w < 2 ^ 16 ∧ decodeWord w = .ok i

/-- A few words written out from R82. -/
def Obligations.VectorsWrittenOutDecode : Prop :=
  decode .block 0b1 = .ok .reset ∧ decode (.tg .display) 0b0 = .ok (.tgCount .display) ∧
    decode .spiCtl 0b0110 = .ok .spiToggle ∧ decode .spiCtl 0b1111 = .ok .spiLastToggle ∧
    decode .spiTx 0b11 = .ok .spiLoad ∧ decode .spiRx 0b1 = .ok .spiCapture ∧
    decode .spiDly 0 = .ok .spiClkDelay ∧ decode .bcd 0b1110 = .ok .bcdAdd3 ∧
    decode .bcd 0b1010 = .ok .bcdLastShift ∧ decode .ds 0b1 = .ok .dsAdvance ∧
    decode .dbSync 0 = .ok .dbSyncShift ∧ decode .dbFilt 0b011 = .ok .dbFlipDown

/-- R84: the packing of a cycle's input words, bit by bit, and that unpacking gives the levels back. -/
def Obligations.InputWordsPackAndUnpack : Prop :=
  ∀ (c : Config) (i : Inputs), i.wellFormed c = true →
    decodeInputs c (encodeInputs c i) = i ∧
    (∀ k, (encodeInputs c i).block.testBit k = (k == 0 && i.rst)) ∧
    (∀ k, (encodeInputs c i).spi.testBit k =
      if k = 0 then i.en else if k = 1 then i.miso else i.cmd.testBit (k - 2)) ∧
    (∀ k, (encodeInputs c i).bcd.testBit k = if k = 0 then i.enable else i.din.testBit (k - 1)) ∧
    (encodeInputs c i).ds = i.digits.toNat ∧
    (∀ k, (encodeInputs c i).db.testBit k = (k == 0 && i.aIn)) ∧
    (encodeInputs c i).spi < 2 ^ (c.spiW + 2) ∧ (encodeInputs c i).bcd < 2 ^ (c.bcdW + 1)

/-- R85, R86: the fields of the command word, and its bits on the wire. The field order and values are
the spec's decision D15 with general knowledge behind it (log 18). -/
def Obligations.CommandWordFieldsAndWireOrder : Prop :=
  ∀ chan : BitVec 3,
    (commandWord chan).extractLsb' 0 12 = 0 ∧ (commandWord chan).extractLsb' 12 3 = chan ∧
    (commandWord chan).extractLsb' 15 1 = 1 ∧ (commandWord chan).extractLsb' 16 1 = 1 ∧
    (commandWord chan).extractLsb' 17 7 = 0 ∧
    wireBits 24 (commandWord chan).toNat =
      List.replicate 7 false ++ [true, true, chan.getLsbD 2, chan.getLsbD 1, chan.getLsbD 0] ++
        List.replicate 12 false

/-- R92: a script loaded into a machine gives the levels of each of its cycles, an input not yet set
holds 0, and the value of the line written last holds from its cycle on: that the order written decides,
where lines are not in the order of their cycles, is the model's choice (log 24). -/
def Obligations.LoadedScriptDrivesItsCycles : Prop :=
  (∀ (s : State) (lines : List StimulusLine) (n t : Nat), t < n →
    (s.load lines n).inputsAt t = scriptInputs lines t) ∧
  (∀ t, scriptInputs [] t = Inputs.zero) ∧
  (∀ (lines : List StimulusLine) (c : Nat) (p : PortValue) (t : Nat),
    scriptInputs (lines ++ [{ cycle := c, sets := [p] }]) t =
      if c ≤ t then applyPort (scriptInputs lines t) p else scriptInputs lines t)

/-! ### The step -/

/-- R80, R11: a cycle runs the decoded operations. With `rst = 0` every sub-unit's operation is decoded
from its vector and performed from the registers before the commit, and the next state has each
sub-unit's registers as its operation left them; with `rst = 1` the one operation is RESET. The
parameters stay, and the input levels move on. -/
def Obligations.StepRunsTheDecodedOperations : Prop :=
  ∀ s : State, s.cfg.wellFormed = true →
    (s.inp.rst = true →
      s.operation .block = .ok .reset ∧
        ∃ t, exec .reset s = .next t ∧ step s = .next t.advance) ∧
    (s.inp.rst = false →
      ∃ t, step s = .next t ∧
        (∀ u, u ≠ .block →
          ∃ i r, s.operation u = .ok i ∧ i.wellFormed = true ∧ i.subUnit = u ∧
            exec i s = .next r ∧ t.adopt u r = t) ∧
        t.cfg = s.cfg ∧ t.inp = s.advance.inp ∧ t.script = s.advance.script ∧
        t.drawn = s.advance.drawn)

/-- R262: which parameters a model refuses, and R232: that nothing else stops a step. -/
def Obligations.OnlyIllegalConfigurationsAreRefused : Prop :=
  (∀ c : Config, c.wellFormed = true ↔
    1 ≤ c.spiW ∧ 1 ≤ c.bcdW ∧ 1 ≤ c.debN ∧ c.tick.init ≤ max c.tick.n 1 - 1 ∧
      c.dispTick.init ≤ max c.dispTick.n 1 - 1 ∧ c.segTable.length = 16) ∧
  (∀ s : State, s.cfg.wellFormed = true → ∃ t, step s = .next t) ∧
  (∀ s : State, s.cfg.wellFormed = false → step s = .refused .illegalConfiguration)

/-- R104, R122, R162, R192, R234: the step by decode tables agrees with the core described as chains
of priorities (Machine/Rtl.lean). -/
def Obligations.StepAgreesWithPriorityChains : Prop :=
  ∀ s : State, s.cfg.wellFormed = true → step s = .next s.nextRegisters.advance

/-- R70, R242: performing the units in any order gives the same commit. -/
def Obligations.UnitOrderDoesNotMatter : Prop :=
  ∀ (s : State) (order : List SubUnit), order.Perm workingSubUnits →
    commitUnits s order s = commitUnits s workingSubUnits s

/-- R72, R81: the frame of every operation. It writes no register but those of its own sub-unit, and
no parameter and no input level. -/
def Obligations.OperationsWriteOnlyTheirOwnRegisters : Prop :=
  ∀ (i : Instr) (s t : State), exec i s = .next t →
    s.adopt i.subUnit t = t ∧
    t.cfg = s.cfg ∧ t.inp = s.inp ∧ t.script = s.script ∧ t.drawn = s.drawn ∧
    (i.subUnit ≠ .block →
      (i.subUnit ≠ .tg .standalone → t.tick = s.tick) ∧
      (i.subUnit ≠ .tg .display → t.dispTick = s.dispTick) ∧
      (i.subUnit ≠ .spiCtl → t.ctl = s.ctl) ∧ (i.subUnit ≠ .spiTx → t.tx = s.tx) ∧
      (i.subUnit ≠ .spiRx → t.rx = s.rx) ∧ (i.subUnit ≠ .spiDly → t.sclkQ = s.sclkQ) ∧
      (i.subUnit ≠ .bcd → t.bcd = s.bcd) ∧ (i.subUnit ≠ .ds → t.idx = s.idx) ∧
      (i.subUnit ≠ .dbSync → t.sync = s.sync) ∧ (i.subUnit ≠ .dbFilt → t.filt = s.filt))

/-- R20, R72, R242: no state is shared. A unit's next registers depend on its own registers, its own
input ports, `rst` and the parameters, and on nothing else. -/
def Obligations.UnitsDependOnlyOnThemselves : Prop :=
  ∀ s s' t t' : State, s.cfg = s'.cfg → s.inp.rst = s'.inp.rst → step s = .next t →
    step s' = .next t' →
    (∀ i, s.tickCnt i = s'.tickCnt i → t.tickCnt i = t'.tickCnt i) ∧
    (s.ctl = s'.ctl → s.tx = s'.tx → s.rx = s'.rx → s.sclkQ = s'.sclkQ →
      s.inp.en = s'.inp.en → s.inp.cmd = s'.inp.cmd → s.inp.miso = s'.inp.miso →
      t.ctl = t'.ctl ∧ t.tx = t'.tx ∧ t.rx = t'.rx ∧ t.sclkQ = t'.sclkQ) ∧
    (s.bcd = s'.bcd → s.inp.enable = s'.inp.enable → s.inp.din = s'.inp.din → t.bcd = t'.bcd) ∧
    (s.dispTick = s'.dispTick → s.idx = s'.idx → t.idx = t'.idx) ∧
    (s.sync = s'.sync → s.filt = s'.filt → s.inp.aIn = s'.inp.aIn →
      t.sync = t'.sync ∧ t.filt = t'.filt)

/-- The state that `withFetchWord` prepares performs the operation read (the model's own entry, log 2
and log 3): RESET is selected only with `rst = 1`, and every other operation with `rst = 0`. -/
def Obligations.ArrangedOperationIsPerformed : Prop :=
  (∀ (s : State) (i : Instr),
    (s.arrange i).operation i.subUnit = .ok i ∧
      (s.arrange i).inp.rst = decide (i.subUnit = .block)) ∧
  (∀ (s : State) (nbits w : Nat) (i : Instr), decodeTableWord nbits w = some i →
    s.withFetchWord nbits w = s.arrange i)

/-! ### Every operation's effect -/

/-- R260: RESET puts every register at the value of R53, changes nothing else, and is what a cycle with
`rst = 1` performs whatever the other inputs; the flags that show from the next cycle. -/
def Obligations.ResetWritesEveryRegister : Prop :=
  ∀ s : State,
    (∃ t, exec .reset s = .next t ∧
      t.cfg = s.cfg ∧ t.inp = s.inp ∧ t.script = s.script ∧ t.drawn = s.drawn ∧
      t.tick = s.cfg.tick.init ∧ t.dispTick = s.cfg.dispTick.init ∧
      t.ctl = { state := .idle, div := s.cfg.spiDiv, edges := 2 * s.cfg.spiW, sclk := false } ∧
      t.sclkQ = false ∧ t.tx = 0 ∧ t.rx = 0 ∧
      t.bcd = { work := 0, acc := 0, cnt := 0, active := false, fix := false, out := 0 } ∧
      t.idx = 0 ∧ t.sync = { s1 := s.cfg.debInit, s2 := s.cfg.debInit } ∧
      t.filt = { stable := s.cfg.debInit, cnt := 0, up := false, down := false } ∧
      t.outputs.spiBusy = false ∧ t.outputs.spiDone = true ∧ t.outputs.bcdBusy = false ∧
      t.outputs.upStb = false ∧ t.outputs.downStb = false ∧
      (s.cfg.wellFormed = true → s.inp.rst = true → step s = .next t.advance)) ∧
    (∀ i, s.operation .block = .ok i ↔ s.inp.rst = true ∧ i = .reset)

/-- R105, R106, R100: the two TickGenerator operations, for each instance. The decrement is exact for
a counter in its range (R101). -/
def Obligations.TickStrobeAndCount : Prop :=
  ∀ (s : State) (p : TickInst),
    (s.operation (.tg p) = .ok (.tgStrobe p) ↔ s.tickCnt p = 0) ∧
    (s.operation (.tg p) = .ok (.tgCount p) ↔ s.tickCnt p ≠ 0) ∧
    (s.stb p = true ↔ s.tickCnt p = 0) ∧
    (∃ t, exec (.tgStrobe p) s = .next t ∧ t.tickCnt p = max (s.cfg.tickParams p).n 1 - 1 ∧
      t = match p with
        | .standalone => { s with tick := t.tick }
        | .display => { s with dispTick := t.dispTick }) ∧
    (∃ t, exec (.tgCount p) s = .next t ∧
      (s.tickCnt p ≠ 0 → s.tickCnt p ≤ max (s.cfg.tickParams p).n 1 - 1 →
        t.tickCnt p = s.tickCnt p - 1) ∧
      t = match p with
        | .standalone => { s with tick := t.tick }
        | .display => { s with dispTick := t.dispTick })

/-- R130, R131: SPI_IDLE and SPI_START. Chip-select is deasserted while idle, and asserted from the
cycle after a start. -/
def Obligations.SpiIdleAndStart : Prop :=
  ∀ s : State,
    (s.operation .spiCtl = .ok .spiIdle ↔ s.ctl.state = .idle ∧ s.inp.en = false) ∧
    (s.operation .spiCtl = .ok .spiStart ↔ s.ctl.state = .idle ∧ s.inp.en = true) ∧
    (∃ t, exec .spiIdle s = .next t ∧
      t = { s with ctl := { state := s.ctl.state, div := s.cfg.spiDiv,
                            edges := 2 * s.cfg.spiW, sclk := false } }) ∧
    (∃ t, exec .spiStart s = .next t ∧
      t = { s with ctl := { state := .transfer, div := s.cfg.spiDiv,
                            edges := 2 * s.cfg.spiW, sclk := false } } ∧
      t.outputs.spiBusy = true ∧ t.outputs.spiDone = false ∧
      t.outputs.cs = !s.cfg.csActiveLow) ∧
    (s.ctl.state = .idle →
      s.outputs.spiBusy = false ∧ s.outputs.spiDone = true ∧ s.outputs.cs = s.cfg.csActiveLow)

/-- R132, R133, R134: SPI_WAIT, SPI_TOGGLE and SPI_LAST_TOGGLE. The decrements are exact for counters
in their ranges (R125). -/
def Obligations.SpiWaitAndToggles : Prop :=
  ∀ s : State,
    (s.operation .spiCtl = .ok .spiWait ↔ s.ctl.state = .transfer ∧ s.ctl.div ≠ 0) ∧
    (s.operation .spiCtl = .ok .spiToggle ↔
      s.ctl.state = .transfer ∧ s.ctl.div = 0 ∧ s.ctl.edges ≠ 1) ∧
    (s.operation .spiCtl = .ok .spiLastToggle ↔
      s.ctl.state = .transfer ∧ s.ctl.div = 0 ∧ s.ctl.edges = 1) ∧
    (∃ t, exec .spiWait s = .next t ∧ t = { s with ctl := { s.ctl with div := t.ctl.div } } ∧
      (s.ctl.div ≠ 0 → s.ctl.div ≤ s.cfg.spiDiv → t.ctl.div = s.ctl.div - 1)) ∧
    (∃ t, exec .spiToggle s = .next t ∧
      t = { s with ctl := { s.ctl with div := s.cfg.spiDiv, sclk := !s.ctl.sclk,
                                       edges := t.ctl.edges } } ∧
      (1 ≤ s.ctl.edges → s.ctl.edges ≤ 2 * s.cfg.spiW → t.ctl.edges = s.ctl.edges - 1)) ∧
    (∃ t, exec .spiLastToggle s = .next t ∧
      t = { s with ctl := { state := .idle, div := s.cfg.spiDiv, edges := 0,
                            sclk := !s.ctl.sclk } } ∧
      t.outputs.spiBusy = false ∧ t.outputs.spiDone = true ∧ t.outputs.cs = s.cfg.csActiveLow)

/-- R137, R138, R139: SPI_LOAD, SPI_SHIFT_OUT and SPI_TX_HOLD, bit by bit, with the load beating a
shift in the same cycle. That a `cmd` wider than its port is cut is the model's choice (log 14). -/
def Obligations.SpiTransmitRegister : Prop :=
  ∀ s : State,
    (s.operation .spiTx = .ok .spiLoad ↔ s.ctl.state = .idle ∧ s.inp.en = true) ∧
    (s.operation .spiTx = .ok .spiShiftOut ↔
      ¬(s.ctl.state = .idle ∧ s.inp.en = true) ∧ s.shp = true) ∧
    (s.operation .spiTx = .ok .spiTxHold ↔
      ¬(s.ctl.state = .idle ∧ s.inp.en = true) ∧ s.shp = false) ∧
    (∃ t, exec .spiLoad s = .next t ∧ t = { s with tx := t.tx } ∧
      (s.inp.cmd < 2 ^ s.cfg.spiW → t.tx = s.inp.cmd) ∧
      ∀ k, t.tx.testBit k = (decide (k < s.cfg.spiW) && s.inp.cmd.testBit k)) ∧
    (∃ t, exec .spiShiftOut s = .next t ∧ t = { s with tx := t.tx } ∧
      ∀ k, t.tx.testBit k =
        (decide (k < s.cfg.spiW) && decide (1 ≤ k) && s.tx.testBit (k - 1))) ∧
    (∃ t, exec .spiTxHold s = .next t ∧ t = s)

/-- R141, R142, R143, R47: SPI_CAPTURE, SPI_RX_HOLD and SPI_CLK_DELAY. The capture does not depend on
the SpiMaster's state. -/
def Obligations.SpiReceiveRegisterAndClockDelay : Prop :=
  ∀ s : State,
    (s.operation .spiRx = .ok .spiCapture ↔ s.cap = true) ∧
    (s.operation .spiRx = .ok .spiRxHold ↔ s.cap = false) ∧
    (s.cap = true ↔ match s.cfg.captureEdge with
      | .rise => s.ctl.sclk = true ∧ s.sclkQ = false
      | .fall => s.ctl.sclk = false ∧ s.sclkQ = true) ∧
    (s.shp = true ↔ match s.cfg.captureEdge with
      | .rise => s.ctl.sclk = false ∧ s.sclkQ = true
      | .fall => s.ctl.sclk = true ∧ s.sclkQ = false) ∧
    (∃ t, exec .spiCapture s = .next t ∧ t = { s with rx := t.rx } ∧
      (1 ≤ s.cfg.spiW → t.rx.testBit 0 = s.inp.miso) ∧
      ∀ k, t.rx.testBit (k + 1) = (decide (k + 1 < s.cfg.spiW) && s.rx.testBit k)) ∧
    (∃ t, exec .spiRxHold s = .next t ∧ t = s) ∧
    s.operation .spiDly = .ok .spiClkDelay ∧
    (∃ t, exec .spiClkDelay s = .next t ∧ t = { s with sclkQ := s.ctl.sclk } ∧
      t.rise = false ∧ t.fall = false)

/-- R170, R175: BCD_START, in any state of the converter, and BCD_IDLE. That a `din` wider than its
port is cut is the model's choice (log 14). -/
def Obligations.BcdStartAndIdle : Prop :=
  ∀ s : State,
    (s.operation .bcd = .ok .bcdStart ↔ s.inp.enable = true) ∧
    (s.operation .bcd = .ok .bcdIdle ↔ s.inp.enable = false ∧ s.bcd.active = false) ∧
    (∃ t, exec .bcdStart s = .next t ∧
      t = { s with bcd := { work := t.bcd.work, acc := 0, cnt := s.cfg.bcdW, active := true,
                            fix := false, out := s.bcd.out } } ∧
      (s.inp.din < 2 ^ s.cfg.bcdW → t.bcd.work = s.inp.din) ∧
      (∀ k, t.bcd.work.testBit k = (decide (k < s.cfg.bcdW) && s.inp.din.testBit k)) ∧
      t.outputs.bcdBusy = true) ∧
    (∃ t, exec .bcdIdle s = .next t ∧ t = s)

/-- R171, R172: BCD_ADD3 is selected exactly when some digit is 5 or more and no correction has been
made, adds 3 to each such digit, saturating, with no carry between digits, and sets `fix`. -/
def Obligations.BcdAdd3CorrectsEachDigit : Prop :=
  ∀ s : State,
    (s.operation .bcd = .ok .bcdAdd3 ↔
      s.inp.enable = false ∧ s.bcd.active = true ∧ s.bcd.fix = false ∧
        ∃ i, i < 4 ∧ 5 ≤ (nibble s.bcd.acc i).toNat) ∧
    (∃ t, exec .bcdAdd3 s = .next t ∧
      t = { s with bcd := { s.bcd with acc := t.bcd.acc, fix := true } } ∧
      ∀ i, i < 4 → (nibble t.bcd.acc i).toNat =
        if 5 ≤ (nibble s.bcd.acc i).toNat then min ((nibble s.bcd.acc i).toNat + 3) 15
        else (nibble s.bcd.acc i).toNat)

/-- R173, R174: the two shifts move the joint register `{acc, work}` one bit up. `acc[0]` gets
`work[BCD_W-1]`, `work[0]` gets 0, and `acc[15]` is dropped; the last one also latches `out` and ends
the conversion. -/
def Obligations.BcdShiftsTheJointRegister : Prop :=
  ∀ s : State, 1 ≤ s.cfg.bcdW →
    (s.operation .bcd = .ok .bcdShift ↔
      s.inp.enable = false ∧ s.bcd.active = true ∧ s.corr = false ∧ s.bcd.cnt ≠ 1) ∧
    (s.operation .bcd = .ok .bcdLastShift ↔
      s.inp.enable = false ∧ s.bcd.active = true ∧ s.corr = false ∧ s.bcd.cnt = 1) ∧
    (∃ t, exec .bcdShift s = .next t ∧
      t = { s with bcd := { s.bcd with acc := t.bcd.acc, work := t.bcd.work, fix := false,
                                       cnt := t.bcd.cnt } } ∧
      (∀ k, k < 16 → t.bcd.acc.getLsbD k =
        if k = 0 then s.bcd.work.testBit (s.cfg.bcdW - 1) else s.bcd.acc.getLsbD (k - 1)) ∧
      (∀ k, t.bcd.work.testBit k =
        (decide (k < s.cfg.bcdW) && decide (1 ≤ k) && s.bcd.work.testBit (k - 1))) ∧
      (1 ≤ s.bcd.cnt → s.bcd.cnt ≤ s.cfg.bcdW → t.bcd.cnt = s.bcd.cnt - 1)) ∧
    (∃ t, exec .bcdLastShift s = .next t ∧
      t = { s with bcd := { acc := t.bcd.acc, work := t.bcd.work, fix := false, cnt := 0,
                            active := false, out := t.bcd.acc } } ∧
      (∀ k, k < 16 → t.bcd.acc.getLsbD k =
        if k = 0 then s.bcd.work.testBit (s.cfg.bcdW - 1) else s.bcd.acc.getLsbD (k - 1)) ∧
      (∀ k, t.bcd.work.testBit k =
        (decide (k < s.cfg.bcdW) && decide (1 ≤ k) && s.bcd.work.testBit (k - 1))) ∧
      t.outputs.bcdBusy = false ∧ t.outputs.dout = t.bcd.acc)

/-- R193, R194: DS_ADVANCE counts up modulo 4, DS_HOLD keeps the digit. -/
def Obligations.DisplayAdvanceAndHold : Prop :=
  ∀ s : State,
    (s.operation .ds = .ok .dsAdvance ↔ s.dispTick = 0) ∧
    (s.operation .ds = .ok .dsHold ↔ s.dispTick ≠ 0) ∧
    (∃ t, exec .dsAdvance s = .next t ∧ t = { s with idx := t.idx } ∧
      t.idx.toNat = (s.idx.toNat + 1) % 4) ∧
    (∃ t, exec .dsHold s = .next t ∧ t = s)

/-- R211 to R215, R210: the synchronizer's shift and the four operations of the filter. The increment
is exact for a counter in its range (R216). -/
def Obligations.SynchronizerAndFilter : Prop :=
  ∀ s : State,
    s.operation .dbSync = .ok .dbSyncShift ∧
    (∃ t, exec .dbSyncShift s = .next t ∧
      t = { s with sync := { s1 := s.inp.aIn, s2 := s.sync.s1 } }) ∧
    (s.operation .dbFilt = .ok .dbMatch ↔ s.sync.s2 = s.filt.stable) ∧
    (s.operation .dbFilt = .ok .dbCount ↔
      s.sync.s2 ≠ s.filt.stable ∧ s.filt.cnt ≠ s.cfg.debN - 1) ∧
    (s.operation .dbFilt = .ok .dbFlipUp ↔
      s.sync.s2 = true ∧ s.filt.stable = false ∧ s.filt.cnt = s.cfg.debN - 1) ∧
    (s.operation .dbFilt = .ok .dbFlipDown ↔
      s.sync.s2 = false ∧ s.filt.stable = true ∧ s.filt.cnt = s.cfg.debN - 1) ∧
    (∃ t, exec .dbMatch s = .next t ∧
      t = { s with filt := { stable := s.filt.stable, cnt := 0, up := false, down := false } }) ∧
    (∃ t, exec .dbCount s = .next t ∧
      t = { s with filt := { stable := s.filt.stable, cnt := t.filt.cnt, up := false,
                             down := false } } ∧
      (s.filt.cnt < s.cfg.debN - 1 → t.filt.cnt = s.filt.cnt + 1)) ∧
    (∃ t, exec .dbFlipUp s = .next t ∧
      t = { s with filt := { stable := true, cnt := 0, up := true, down := false } }) ∧
    (∃ t, exec .dbFlipDown s = .next t ∧
      t = { s with filt := { stable := false, cnt := 0, up := false, down := true } })

/-! ### Outputs -/

/-- R198: exactly one digit-enable line is on in every cycle, that of `idx`. -/
def Obligations.ExactlyOneDigitIsEnabled : Prop :=
  ∀ s : State,
    (∀ k, k < 4 → (s.digOn.getLsbD k = true ↔ k = s.idx.toNat)) ∧
    (∃ k, k < 4 ∧ s.digOn.getLsbD k = true ∧ ∀ j, j < 4 → s.digOn.getLsbD j = true → j = k)

/-- R196, R197: the display's pins, bit by bit, for either polarity, from `digits` of the same cycle;
the lookup is total for a legal table. -/
def Obligations.DisplayPinsShowTheSelectedDigit : Prop :=
  ∀ s : State, s.cfg.wellFormed = true →
    ∃ lit : Segments,
      s.cfg.segTable[(nibble s.inp.digits s.idx.toNat).toNat]? = some lit ∧
      (∀ k, k < 4 → (nibble s.inp.digits s.idx.toNat).getLsbD k =
        s.inp.digits.getLsbD (4 * s.idx.toNat + k)) ∧
      (∀ k, k < 8 → s.outputs.seg.getLsbD k = xor s.cfg.segActiveLow (lit.getLsbD k)) ∧
      (∀ k, k < 4 → s.outputs.dig.getLsbD k =
        xor s.cfg.digActiveLow (decide (k = s.idx.toNat)))

/-- R71, R67, R260: the only path from an input to an output within a cycle is `digits` to `seg`; every
other output keeps its level whatever is on the input ports, `rst` included. -/
def Obligations.OnlySegmentsFollowAnInput : Prop :=
  ∀ (s : State) (i : Inputs),
    { (s.drive i).outputs with seg := s.outputs.seg } = s.outputs ∧
    (i.digits = s.inp.digits → (s.drive i).outputs = s.outputs)

/-- R50: a pulse is 1 exactly in the cycle in which `stable` first shows its new value after a flip.
(A RESET writes `stable` too, and makes no pulse.) -/
def Obligations.PulsesMarkExactlyTheFlips : Prop :=
  ∀ s t : State, step s = .next t →
    (t.outputs.upStb = true ↔ s.inp.rst = false ∧ s.filt.stable = false ∧ t.filt.stable = true) ∧
    (t.outputs.downStb = true ↔
      s.inp.rst = false ∧ s.filt.stable = true ∧ t.filt.stable = false) ∧
    ¬(t.outputs.upStb = true ∧ t.outputs.downStb = true)

/-- What a cycle with `rst = 0` leaves of the units that R245 calls quiescent; R245 only defines the
word, and the clauses follow from the operations. An SpiMaster without a request stays IDLE with
`done = 1` (R130; `edges` may still go from 0 to `2*SPI_W`), and keeps `tx` and `rx` where no edge
pulse is left (R139, R142); an idle BcdConverter keeps every register (R175); a settled
EdgeSynchronizer keeps its levels and has no pulse after it (R211, R212). -/
def Obligations.QuiescentUnitsBeginNothing : Prop :=
  ∀ s t : State, s.inp.rst = false → step s = .next t →
    (s.spiQuiescent = true → t.ctl.state = .idle ∧ t.outputs.spiDone = true ∧
      (s.ctl.sclk = s.sclkQ → t.rx = s.rx ∧ t.tx = s.tx)) ∧
    (s.bcdQuiescent = true → t.bcd = s.bcd) ∧
    (s.debQuiescent = true → t.sync = s.sync ∧
      t.filt = { stable := s.filt.stable, cnt := 0, up := false, down := false })

/-! ### The invariant -/

/-- R53, R261: the reset state of a legal configuration meets the invariant, and so does the
reference one (its open entries are the model's choice, log 6). -/
def Obligations.ResetMeetsTheInvariant : Prop :=
  (∀ c : Config, c.wellFormed = true → Inv (State.resetOf c)) ∧ Inv State.reset

/-- R101, R125, R168, R178, R216: the ranges of every unit's registers hold after every step from a
state in which they hold. -/
def Obligations.EveryStepKeepsTheInvariant : Prop :=
  ∀ s t : State, Inv s → step s = .next t → Inv t

/-- R178, 90_conflicts.md C9: in a state that meets the invariant a correction is never of a digit above
9, so it is the exact sum `acc + 3 * (the weight of each digit of 5 or more)`: no digit saturates and
none carries. -/
def Obligations.SaturationIsNeverExercised : Prop :=
  ∀ s : State, Inv s → s.operation .bcd = .ok .bcdAdd3 →
    (∀ i, i < 4 → (nibble s.bcd.acc i).toNat ≤ 9) ∧
    ∃ t, exec .bcdAdd3 s = .next t ∧
      t.bcd.acc.toNat = s.bcd.acc.toNat +
        ((if 5 ≤ (nibble s.bcd.acc 0).toNat then 3 else 0) +
         (if 5 ≤ (nibble s.bcd.acc 1).toNat then 3 * 16 else 0) +
         (if 5 ≤ (nibble s.bcd.acc 2).toNat then 3 * 16 ^ 2 else 0) +
         (if 5 ≤ (nibble s.bcd.acc 3).toNat then 3 * 16 ^ 3 else 0))

/-! ### TickGenerator over many cycles -/

/-- R103: the period law, for each instance. Cycle 0 is any cycle with `cnt = TICK_INIT`: the one after
power-on, or the one after a RESET. -/
def Obligations.StrobePeriodLaw : Prop :=
  ∀ (s : State) (p : TickInst), s.cfg.wellFormed = true →
    (s.tickCnt p = (s.cfg.tickParams p).init →
      ∀ n, NoReset s n →
        (∀ k, k ≤ n → After s k (fun t => t.stb p = true ↔
          ∃ m, k = (s.cfg.tickParams p).init + m * max (s.cfg.tickParams p).n 1)) ∧
        (∀ a, a + max (s.cfg.tickParams p).n 1 ≤ n + 1 →
          ∃ k, (a ≤ k ∧ k < a + max (s.cfg.tickParams p).n 1 ∧
            After s k (fun t => t.stb p = true)) ∧
            ∀ j, a ≤ j → j < a + max (s.cfg.tickParams p).n 1 →
              After s j (fun t => t.stb p = true) → j = k)) ∧
    (s.inp.rst = true →
      ∃ t, step s = .next t ∧ t.tickCnt p = (s.cfg.tickParams p).init ∧ t.cfg = s.cfg)

/-- R102: with `TICK_N = 0` the strobe is 1 in every cycle, resets or not, as it is with
`TICK_N = 1`, and no step is refused for it. -/
def Obligations.ZeroPeriodStrobesEveryCycle : Prop :=
  ∀ (s : State) (p : TickInst), s.cfg.wellFormed = true →
    (s.cfg.tickParams p).n = 0 ∨ (s.cfg.tickParams p).n = 1 → s.tickCnt p = 0 →
    ∀ k, After s k (fun t => t.tickCnt p = 0 ∧ t.stb p = true)

/-! ### SpiMaster over many cycles -/

/-- R145: the timeline of a transfer accepted in cycle 0, in IDLE with the bus clock low (R125). The
levels of `en` and `cmd` after cycle 0 are free. -/
def Obligations.SpiTransferTimeline : Prop :=
  ∀ s : State, s.cfg.wellFormed = true → s.ctl.state = .idle → s.ctl.sclk = false →
    s.inp.en = true → NoReset s (2 * s.cfg.spiW * s.cfg.spiHalf + 1) →
    ∀ k, 1 ≤ k → k ≤ 2 * s.cfg.spiW * s.cfg.spiHalf + 1 →
      After s k (fun t =>
        (t.ctl.state = .transfer ↔ k ≤ 2 * s.cfg.spiW * s.cfg.spiHalf) ∧
        t.outputs.cs = xor (decide (k ≤ 2 * s.cfg.spiW * s.cfg.spiHalf)) s.cfg.csActiveLow ∧
        (t.ctl.sclk = true ↔ ∃ j, 1 ≤ j ∧ j ≤ s.cfg.spiW ∧
          (2 * j - 1) * s.cfg.spiHalf + 1 ≤ k ∧ k ≤ 2 * j * s.cfg.spiHalf) ∧
        (t.rise = true ↔ ∃ j, 1 ≤ j ∧ j ≤ s.cfg.spiW ∧ k = (2 * j - 1) * s.cfg.spiHalf + 1) ∧
        (t.fall = true ↔ ∃ j, 1 ≤ j ∧ j ≤ s.cfg.spiW ∧ k = 2 * j * s.cfg.spiHalf + 1))

/-- R149: `done` is 0 in exactly the `2*W*H` cycles after the accepting cycle, and 1 again from then on
for as long as no further request is made. -/
def Obligations.SpiBusyForExactlyTwoWidthTimesHalfPeriod : Prop :=
  ∀ s : State, s.cfg.wellFormed = true → s.ctl.state = .idle → s.inp.en = true →
    ∀ n, NoReset s n →
      (∀ j, 2 * s.cfg.spiW * s.cfg.spiHalf + 1 ≤ j → j < n → (s.inputsAt j).en = false) →
      ∀ k, k ≤ n → After s k (fun t =>
        t.outputs.spiDone = !decide (1 ≤ k ∧ k ≤ 2 * s.cfg.spiW * s.cfg.spiHalf))

/-- R148: bit `W-k` of the command word latched in cycle 0 is on `mosi` at the k-th rise of the bus
clock, for either capture edge, and in the cycles R148 names around it. -/
def Obligations.SpiSendsTheCommandMsbFirst : Prop :=
  ∀ s : State, s.cfg.wellFormed = true → s.ctl.state = .idle → s.ctl.sclk = false →
    s.inp.en = true → NoReset s (2 * s.cfg.spiW * s.cfg.spiHalf + 1) →
    ∀ k, 1 ≤ k → k ≤ s.cfg.spiW →
      After s ((2 * k - 1) * s.cfg.spiHalf + 1) (fun t =>
        t.outputs.mosi = s.inp.cmd.testBit (s.cfg.spiW - k)) ∧
      (s.cfg.captureEdge = .rise →
        ∀ c, (if k = 1 then 1 else 2 * (k - 1) * s.cfg.spiHalf + 2) ≤ c →
          c ≤ 2 * k * s.cfg.spiHalf + 1 →
          After s c (fun t => t.outputs.mosi = s.inp.cmd.testBit (s.cfg.spiW - k))) ∧
      (s.cfg.captureEdge = .fall → k < s.cfg.spiW →
        ∀ c, (2 * k - 1) * s.cfg.spiHalf + 2 ≤ c → c ≤ (2 * k + 1) * s.cfg.spiHalf + 1 →
          After s c (fun t => t.outputs.mosi = s.inp.cmd.testBit (s.cfg.spiW - k - 1)))

/-- R147: `resp` after a transfer is exactly the levels of `miso` in the capture cycles, the first one in
the most significant bit, until the first capture of a next transfer commits, cycle `n` being the
earliest one in which that is requested; and before the last capture it is the former value shifted up
with the samples so far below it. -/
def Obligations.SpiResponseIsTheSampledBits : Prop :=
  ∀ s : State, s.cfg.wellFormed = true → s.ctl.state = .idle → s.ctl.sclk = false →
    s.inp.en = true → ∀ n, 2 * s.cfg.spiW * s.cfg.spiHalf + 1 ≤ n →
    NoReset s (n + captureCycle s.cfg 1) →
    (∀ j, 2 * s.cfg.spiW * s.cfg.spiHalf + 1 ≤ j → j < n → (s.inputsAt j).en = false) →
    (∀ c, captureCycle s.cfg s.cfg.spiW + 1 ≤ c → c ≤ n + captureCycle s.cfg 1 →
      After s c (fun t => t.outputs.resp < 2 ^ s.cfg.spiW ∧
        ∀ j, 1 ≤ j → j ≤ s.cfg.spiW → t.outputs.resp.testBit (s.cfg.spiW - j) =
          (s.inputsAt (captureCycle s.cfg j)).miso)) ∧
    (∀ j c, 1 ≤ j → j < s.cfg.spiW → captureCycle s.cfg j + 1 ≤ c →
      c ≤ captureCycle s.cfg (j + 1) →
      ∃ t₁, runFor 1 s = .next t₁ ∧ After s c (fun t => ∀ b, b < s.cfg.spiW →
        t.outputs.resp.testBit b =
          if b < j then (s.inputsAt (captureCycle s.cfg (j - b))).miso
          else t₁.rx.testBit (b - j)))

/-- R154: two transfers of the same command word with the same levels of `miso` in their capture cycles
give the same response, whatever else is in the two cores and on their other inputs. -/
def Obligations.SameCommandAndMisoGiveTheSameResponse : Prop :=
  ∀ s s' : State, s.cfg = s'.cfg → s.cfg.wellFormed = true →
    s.ctl.state = .idle → s.ctl.sclk = false → s.inp.en = true →
    s'.ctl.state = .idle → s'.ctl.sclk = false → s'.inp.en = true → s'.inp.cmd = s.inp.cmd →
    NoReset s (captureCycle s.cfg s.cfg.spiW + 1) →
    NoReset s' (captureCycle s.cfg s.cfg.spiW + 1) →
    (∀ j, 1 ≤ j → j ≤ s.cfg.spiW → (s'.inputsAt (captureCycle s.cfg j)).miso =
      (s.inputsAt (captureCycle s.cfg j)).miso) →
    ∃ t t', runFor (captureCycle s.cfg s.cfg.spiW + 1) s = .next t ∧
      runFor (captureCycle s.cfg s.cfg.spiW + 1) s' = .next t' ∧
      t'.outputs.resp = t.outputs.resp

/-- R151: with `en` held at 1 the transfers follow each other with exactly one IDLE cycle between them,
the one that accepts the next, in which the chip-select is deasserted. -/
def Obligations.HeldRequestGivesBackToBackTransfers : Prop :=
  ∀ s : State, s.cfg.wellFormed = true → s.ctl.state = .idle →
    ∀ n, NoReset s n → (∀ j, j ≤ n → (s.inputsAt j).en = true) →
      ∀ k, k ≤ n → After s k (fun t =>
        (t.operation .spiCtl = .ok .spiStart ↔
          k % (2 * s.cfg.spiW * s.cfg.spiHalf + 1) = 0) ∧
        (t.ctl.state = .idle ↔ k % (2 * s.cfg.spiW * s.cfg.spiHalf + 1) = 0) ∧
        t.outputs.cs =
          xor (!decide (k % (2 * s.cfg.spiW * s.cfg.spiHalf + 1) = 0)) s.cfg.csActiveLow)

/-- R151, R152: a request in TRANSFER leaves no trace. The SpiMaster's next registers are the same
whatever is on `en` and `cmd`. -/
def Obligations.RequestsWhileBusyLeaveNoTrace : Prop :=
  ∀ (s t t' : State) (i : Inputs), s.ctl.state = .transfer → i.rst = s.inp.rst →
    i.miso = s.inp.miso → step s = .next t → step (s.drive i) = .next t' →
    t'.ctl = t.ctl ∧ t'.tx = t.tx ∧ t'.rx = t.rx ∧ t'.sclkQ = t.sclkQ

/-! ### BcdConverter over many cycles -/

/-- R177, R181, R182: a conversion that no further `enable` disturbs ends within `2*BCD_W - 1` cycles
with the four decimal digits of `v mod 10000` in `dout`; until then `dout` keeps the former result. -/
def Obligations.BcdConversionGivesTheDecimalDigits : Prop :=
  ∀ s : State, s.cfg.wellFormed = true → s.inp.enable = true →
    s.inp.din < 2 ^ s.cfg.bcdW → NoReset s (2 * s.cfg.bcdW) →
    (∀ j, 1 ≤ j → j < 2 * s.cfg.bcdW → (s.inputsAt j).enable = false) →
    ∃ n, s.cfg.bcdW ≤ n ∧ n ≤ 2 * s.cfg.bcdW - 1 ∧
      (∀ k, 1 ≤ k → k ≤ n → After s k (fun t =>
        t.outputs.bcdBusy = true ∧ t.outputs.dout = s.outputs.dout)) ∧
      After s (n + 1) (fun t => t.outputs.bcdBusy = false ∧
        ∀ i, i < 4 → (nibble t.outputs.dout i).toNat = decimalDigit (s.inp.din % 10000) i)

/-- R176: the conversion of `v` is busy for exactly `W + K` cycles, K being the number of shifts 1 to
W-1 after which some digit is 5 or more. -/
def Obligations.BcdLatencyIsWidthPlusCorrections : Prop :=
  ∀ s : State, s.cfg.wellFormed = true → s.inp.enable = true →
    s.inp.din < 2 ^ s.cfg.bcdW →
    ∀ n, NoReset s n → (∀ j, 1 ≤ j → j < n → (s.inputsAt j).enable = false) →
      ∀ k, 1 ≤ k → k ≤ n → After s k (fun t =>
        t.outputs.bcdBusy = decide (k ≤ s.cfg.bcdW + corrections s.cfg.bcdW s.inp.din))

/-- R179: after a retrigger nothing of the old conversion remains but `out`. Two cores with the same
`out`, started in the same cycle under the same input levels, have the same BcdConverter registers
ever after, whatever was in the other registers of the converter. -/
def Obligations.RetriggerForgetsTheOldConversion : Prop :=
  ∀ (s : State) (b : Bcd), s.cfg.wellFormed = true → s.inp.enable = true →
    b.out = s.bcd.out →
    ∀ k, 1 ≤ k → ∃ t t', runFor k s = .next t ∧ runFor k { s with bcd := b } = .next t' ∧
      t'.bcd = t.bcd

/-- R180: while `enable` is held at 1 every cycle is BCD_START, the converter stays active and `dout`
never changes. -/
def Obligations.HeldEnableNeverCompletes : Prop :=
  ∀ (s : State) (n : Nat), s.cfg.wellFormed = true → NoReset s n →
    (∀ j, j < n → (s.inputsAt j).enable = true) →
    (∀ k, k < n → After s k (fun t => t.operation .bcd = .ok .bcdStart)) ∧
    ∀ k, 1 ≤ k → k ≤ n → After s k (fun t =>
      t.outputs.bcdBusy = true ∧ t.outputs.dout = s.outputs.dout)

/-! ### DisplayScanner over many cycles -/

/-- R199: with the scanner at digit 0 and its counter at `DISP_TICK_INIT`, as after reset, the first slot
lasts `DISP_TICK_INIT + 1` cycles and every later one P; the slots run through 0, 1, 2, 3, 0; any
four consecutive strobes end a slot of each digit exactly once; and in every cycle of a slot the
segments are the table's entry for that digit's nibble of that cycle's `digits`. -/
def Obligations.ScanShowsEachDigitInTurn : Prop :=
  ∀ s : State, s.cfg.wellFormed = true → s.idx = 0 →
    s.dispTick = s.cfg.dispTick.init →
    ∀ n, NoReset s n →
      (∀ k, k ≤ n → k ≤ s.cfg.dispTick.init → After s k (fun t => t.idx = 0)) ∧
      (∀ m k, k ≤ n → s.cfg.dispTick.init + m * max s.cfg.dispTick.n 1 + 1 ≤ k →
        k ≤ s.cfg.dispTick.init + (m + 1) * max s.cfg.dispTick.n 1 →
        After s k (fun t => t.idx.toNat = (m + 1) % 4)) ∧
      (∀ m d, d < 4 → s.cfg.dispTick.init + (m + 3) * max s.cfg.dispTick.n 1 ≤ n →
        ∃ j, (m ≤ j ∧ j < m + 4 ∧
          After s (s.cfg.dispTick.init + j * max s.cfg.dispTick.n 1)
            (fun t => t.stb .display = true ∧ t.idx.toNat = d)) ∧
          ∀ j', m ≤ j' → j' < m + 4 →
            After s (s.cfg.dispTick.init + j' * max s.cfg.dispTick.n 1)
              (fun t => t.idx.toNat = d) → j' = j) ∧
      (∀ k, k ≤ n → After s k (fun t =>
        s.cfg.segTable[(nibble (s.inputsAt k).digits t.idx.toNat).toNat]? = some t.segLit))

/-! ### EdgeSynchronizer over many cycles -/

/-- R219, R217: with the synchronizer settled on the stable level, an input that changes and holds gives
exactly one pulse, `DEB_N + 2` cycles after the change, together with the new level. -/
def Obligations.SustainedChangeGivesExactlyOnePulse : Prop :=
  ∀ (s : State) (n : Nat), s.cfg.wellFormed = true → s.sync.s1 = s.filt.stable →
    s.sync.s2 = s.filt.stable → NoReset s n →
    (∀ j, j < n → (s.inputsAt j).aIn = !s.filt.stable) →
    ∀ k, 1 ≤ k → k ≤ n → After s k (fun t =>
      t.outputs.stable = (if k < s.cfg.debN + 2 then s.filt.stable else !s.filt.stable) ∧
      t.outputs.upStb = (decide (k = s.cfg.debN + 2) && !s.filt.stable) ∧
      t.outputs.downStb = (decide (k = s.cfg.debN + 2) && s.filt.stable))

/-- R217: the hold need only last `DEB_N` cycles: the level and its pulse come in cycle `DEB_N + 2`
whatever the input does after cycle `DEB_N - 1`, and not before. -/
def Obligations.FlipComesDebounceLatencyAfterTheChange : Prop :=
  ∀ s : State, s.cfg.wellFormed = true → s.sync.s1 = s.filt.stable →
    s.sync.s2 = s.filt.stable → NoReset s (s.cfg.debN + 3) →
    (∀ j, j < s.cfg.debN → (s.inputsAt j).aIn = !s.filt.stable) →
    (∀ k, k < s.cfg.debN + 2 → After s k (fun t => t.outputs.stable = s.filt.stable)) ∧
    After s (s.cfg.debN + 2) (fun t => t.outputs.stable = !s.filt.stable ∧
      t.outputs.upStb = !s.filt.stable ∧ t.outputs.downStb = s.filt.stable) ∧
    After s (s.cfg.debN + 3) (fun t =>
      (s.filt.stable = false → t.outputs.upStb = false) ∧
      (s.filt.stable = true → t.outputs.downStb = false))

/-- R218: an excursion of fewer than `DEB_N` cycles is rejected: no flip, and no pulse. -/
def Obligations.ShortExcursionIsRejected : Prop :=
  ∀ (s : State) (len n : Nat), s.cfg.wellFormed = true → s.sync.s1 = s.filt.stable →
    s.sync.s2 = s.filt.stable → NoReset s n → len < s.cfg.debN →
    (∀ j, j < n → (s.inputsAt j).aIn = if j < len then !s.filt.stable else s.filt.stable) →
    ∀ k, 1 ≤ k → k ≤ n → After s k (fun t =>
      t.outputs.stable = s.filt.stable ∧ t.outputs.upStb = false ∧ t.outputs.downStb = false)

/-- R218, R217: an excursion of `DEB_N` cycles or more flips the stable output, with its pulse, in cycle
`DEB_N + 2`, and the return flips it back in cycle `len + DEB_N + 2`: no pulse comes in between or
after. With `DEB_N = 1` and one cycle of excursion the two flips are one cycle apart, as R214, R215 and
the trace of R221 give it, against the words of R218 (the model's choice, log 23). -/
def Obligations.LongExcursionFlipsThereAndBack : Prop :=
  ∀ (s : State) (len n : Nat), s.cfg.wellFormed = true → s.sync.s1 = s.filt.stable →
    s.sync.s2 = s.filt.stable → NoReset s n → s.cfg.debN ≤ len →
    (∀ j, j < n → (s.inputsAt j).aIn = if j < len then !s.filt.stable else s.filt.stable) →
    ∀ k, 1 ≤ k → k ≤ n → After s k (fun t =>
      t.outputs.stable = xor s.filt.stable
        (decide (s.cfg.debN + 2 ≤ k ∧ k < len + s.cfg.debN + 2)) ∧
      t.outputs.upStb =
        decide (k = if s.filt.stable then len + s.cfg.debN + 2 else s.cfg.debN + 2) ∧
      t.outputs.downStb =
        decide (k = if s.filt.stable then s.cfg.debN + 2 else len + s.cfg.debN + 2))
end

