-- ==== Sys2Proof/Laws/Bits.lean ====
section
/-! SUPPORT. What the width operations of Machine/Bits.lean can answer. -/

namespace Sys2Proof.Machine

theorem cut_lt (w x : Nat) : cut w x < 2 ^ w := Nat.mod_lt _ (Nat.two_pow_pos w)

theorem cut_eq_of_lt {w x : Nat} (h : x < 2 ^ w) : cut w x = x := Nat.mod_eq_of_lt h

@[simp] theorem cut_cut (w x : Nat) : cut w (cut w x) = cut w x := cut_eq_of_lt (cut_lt w x)

theorem lt_two_pow_bitlen (x : Nat) : x < 2 ^ bitlen x := by
  unfold bitlen
  split
  · simp_all
  · exact Nat.lt_log2_self

/-- A value within a bound fits the width that R8 gives for the bound. -/
theorem lt_two_pow_of_le {x b w : Nat} (h : x ≤ b) (hw : bitlen b ≤ w) : x < 2 ^ w :=
  lt_of_le_of_lt h (lt_of_lt_of_le (lt_two_pow_bitlen b) (Nat.pow_le_pow_right (by omega) hw))

theorem decAt_lt (w x : Nat) : decAt w x < 2 ^ w := cut_lt w _

/-- A decrement of a value in 1 to `2^w - 1` does not wrap (R101, R125, R168). -/
theorem decAt_eq {w x : Nat} (h0 : 1 ≤ x) (h : x < 2 ^ w) : decAt w x = x - 1 := by
  have hx : x + (2 ^ w - 1) = (x - 1) + 2 ^ w := by have := Nat.two_pow_pos w; omega
  unfold decAt cut
  rw [hx, Nat.add_mod_right, Nat.mod_eq_of_lt (by omega)]

theorem incAt_lt (w x : Nat) : incAt w x < 2 ^ w := cut_lt w _

/-- An increment that fits does not wrap (R216). -/
theorem incAt_eq {w x : Nat} (h : x + 1 < 2 ^ w) : incAt w x = x + 1 := Nat.mod_eq_of_lt h

theorem shiftIn_lt (w v : Nat) (b : Bool) : shiftIn w v b < 2 ^ w := cut_lt w _

/-- Bit 0 of a shift is the bit that enters (R138, R141). -/
theorem shiftIn_testBit_zero {w : Nat} (hw : 1 ≤ w) (v : Nat) (b : Bool) :
    (shiftIn w v b).testBit 0 = b := by
  unfold shiftIn cut
  rw [Nat.testBit_mod_two_pow]
  cases b <;> simp; omega

/-- Every other bit of a shift is the bit below it (R138, R141). -/
theorem shiftIn_testBit_succ (w v : Nat) (b : Bool) (k : Nat) :
    (shiftIn w v b).testBit (k + 1) = (decide (k + 1 < w) && v.testBit k) := by
  unfold shiftIn cut
  rw [Nat.testBit_mod_two_pow, Nat.testBit_succ]
  have : (2 * v + b.toNat) / 2 = v := by cases b <;> simp; omega
  rw [this]

/-- Digit i of a packed word as a number (R63). -/
theorem nibble_toNat (v : Packed) (i : Nat) : (nibble v i).toNat = v.toNat / 16 ^ i % 16 := by
  unfold nibble
  simp [BitVec.extractLsb'_toNat, Nat.shiftRight_eq_div_pow, Nat.pow_mul]

/-- A word packed from four digits as a number (R63). -/
theorem packNibbles_toNat (n0 n1 n2 n3 : Nibble) :
    (packNibbles n0 n1 n2 n3).toNat =
      n0.toNat + 16 * n1.toNat + 256 * n2.toNat + 4096 * n3.toNat := by
  have h0 := n0.isLt
  have h1 := n1.isLt
  have h2 := n2.isLt
  have e (a b : Nat) (h : b < 2 ^ 4) : a <<< 4 ||| b = a * 16 + b := by
    rw [← Nat.shiftLeft_add_eq_or_of_lt h, Nat.shiftLeft_eq]
  unfold packNibbles
  rw [BitVec.toNat_append, BitVec.toNat_append, BitVec.toNat_append, e _ _ h2, e _ _ h1, e _ _ h0]
  ring

/-- The digits of a packed word are the four it was packed from (R63). -/
theorem nibble_packNibbles (n0 n1 n2 n3 : Nibble) :
    nibble (packNibbles n0 n1 n2 n3) 0 = n0 ∧ nibble (packNibbles n0 n1 n2 n3) 1 = n1 ∧
      nibble (packNibbles n0 n1 n2 n3) 2 = n2 ∧ nibble (packNibbles n0 n1 n2 n3) 3 = n3 := by
  have h0 := n0.isLt
  have h1 := n1.isLt
  have h2 := n2.isLt
  have h3 := n3.isLt
  refine ⟨?_, ?_, ?_, ?_⟩ <;> apply BitVec.eq_of_toNat_eq <;>
    rw [nibble_toNat, packNibbles_toNat] <;> omega

theorem tick_lt_width (p : TickParams) {x : Nat} (h : x ≤ p.reload) : x < 2 ^ p.width :=
  lt_two_pow_of_le h (le_max_right _ _)

theorem div_lt_width (c : Config) {x : Nat} (h : x ≤ c.spiDiv) : x < 2 ^ c.divWidth :=
  lt_two_pow_of_le h (le_max_right _ _)

theorem edges_lt_width (c : Config) {x : Nat} (h : x ≤ 2 * c.spiW) : x < 2 ^ c.edgeWidth :=
  lt_two_pow_of_le h le_rfl

theorem bcdCnt_lt_width (c : Config) {x : Nat} (h : x ≤ c.bcdW) : x < 2 ^ c.bcdCntWidth :=
  lt_two_pow_of_le h le_rfl

theorem debCnt_lt_width (c : Config) {x : Nat} (h : x ≤ c.debN - 1) : x < 2 ^ c.debWidth :=
  lt_two_pow_of_le h (le_max_right _ _)

end Sys2Proof.Machine
end

