-- ==== Sys2Proof/Laws/Decode.lean ====
section
/-! SUPPORT. Which operation each sub-unit performs, once per sub-unit: the decode tables of R82 read
over the condition vectors of R81. -/

namespace Sys2Proof.Machine

theorem operation_block (s : State) :
    s.operation .block = if s.inp.rst then .ok .reset else .error (.noOperation .block) := by
  unfold State.operation State.vector State.inRst
  dsimp only
  cases s.inp.rst <;> rfl

theorem operation_tg (s : State) (t : TickInst) :
    s.operation (.tg t) = .ok (if s.tickCnt t = 0 then .tgStrobe t else .tgCount t) := by
  unfold State.operation State.vector State.stb
  dsimp only
  by_cases h : s.tickCnt t = 0 <;> simp only [h, beq_self_eq_true, beq_eq_false_iff_ne.mpr, if_true, if_false,
    ne_eq, not_false_eq_true] <;> cases t <;> rfl

theorem operation_spiCtl (s : State) :
    s.operation .spiCtl = .ok (match s.ctl.state with
      | .idle => if s.inp.en then .spiStart else .spiIdle
      | .transfer =>
        if s.ctl.div = 0 then (if s.ctl.edges = 1 then .spiLastToggle else .spiToggle)
        else .spiWait) := by
  unfold State.operation State.vector State.inEn State.spiBusy State.divZero State.edgesOne
  dsimp only
  cases s.inp.en <;> cases s.ctl.state <;> by_cases hd : s.ctl.div = 0 <;>
    by_cases he : s.ctl.edges = 1 <;>
    simp only [hd, he, beq_self_eq_true, beq_eq_false_iff_ne.mpr, if_true, if_false, ne_eq,
      not_false_eq_true] <;> rfl

theorem operation_spiTx (s : State) :
    s.operation .spiTx =
      .ok (if s.start then .spiLoad else if s.shp then .spiShiftOut else .spiTxHold) := by
  unfold State.operation State.vector
  dsimp only
  cases s.start <;> cases s.shp <;> rfl

theorem operation_spiRx (s : State) :
    s.operation .spiRx = .ok (if s.cap then .spiCapture else .spiRxHold) := by
  unfold State.operation State.vector
  dsimp only
  cases s.cap <;> rfl

theorem operation_spiDly (s : State) : s.operation .spiDly = .ok .spiClkDelay := by
  unfold State.operation State.vector
  dsimp only
  rfl

theorem operation_bcd (s : State) :
    s.operation .bcd = .ok (
      if s.inp.enable then .bcdStart
      else if s.bcd.active = false then .bcdIdle
      else if s.corr then .bcdAdd3
      else if s.bcd.cnt = 1 then .bcdLastShift
      else .bcdShift) := by
  unfold State.operation State.vector State.inEnable State.bcdCntOne
  dsimp only
  cases s.inp.enable <;> cases s.bcd.active <;> cases s.corr <;> by_cases hc : s.bcd.cnt = 1 <;>
    simp only [hc, beq_self_eq_true, beq_eq_false_iff_ne.mpr, if_true, if_false, ne_eq,
      not_false_eq_true] <;> rfl

theorem operation_ds (s : State) :
    s.operation .ds = .ok (if s.dispTick = 0 then .dsAdvance else .dsHold) := by
  unfold State.operation State.vector State.stb State.tickCnt
  dsimp only
  by_cases h : s.dispTick = 0 <;> simp only [h, beq_self_eq_true, beq_eq_false_iff_ne.mpr, if_true, if_false,
    ne_eq, not_false_eq_true] <;> rfl

theorem operation_dbSync (s : State) : s.operation .dbSync = .ok .dbSyncShift := by
  unfold State.operation State.vector
  dsimp only
  rfl

theorem operation_dbFilt (s : State) :
    s.operation .dbFilt = .ok (
      if s.sync.s2 = s.filt.stable then .dbMatch
      else if s.filt.cnt = s.cfg.debFull then
        (if s.sync.s2 then .dbFlipUp else .dbFlipDown)
      else .dbCount) := by
  unfold State.operation State.vector State.differs State.full
  dsimp only
  cases s.sync.s2 <;> cases s.filt.stable <;> by_cases hc : s.filt.cnt = s.cfg.debFull <;>
    simp only [hc, beq_self_eq_true, beq_eq_false_iff_ne.mpr, if_true, if_false, ne_eq,
      not_false_eq_true] <;> rfl

end Sys2Proof.Machine
end

