-- ==== Sys2Proof/Laws/State.lean ====
section
/-! SUPPORT. One lemma per field per update of State, so that no proof unfolds a record update. -/

namespace Sys2Proof.Machine

@[simp] theorem State.setCtl_cfg (s : State) (v : SpiCtl) : (s.setCtl v).cfg = s.cfg := rfl
@[simp] theorem State.setCtl_inp (s : State) (v : SpiCtl) : (s.setCtl v).inp = s.inp := rfl
@[simp] theorem State.setCtl_script (s : State) (v : SpiCtl) : (s.setCtl v).script = s.script := rfl
@[simp] theorem State.setCtl_drawn (s : State) (v : SpiCtl) : (s.setCtl v).drawn = s.drawn := rfl
@[simp] theorem State.setCtl_tick (s : State) (v : SpiCtl) : (s.setCtl v).tick = s.tick := rfl
@[simp] theorem State.setCtl_dispTick (s : State) (v : SpiCtl) : (s.setCtl v).dispTick = s.dispTick := rfl
@[simp] theorem State.setCtl_ctl (s : State) (v : SpiCtl) : (s.setCtl v).ctl = v := rfl
@[simp] theorem State.setCtl_tx (s : State) (v : SpiCtl) : (s.setCtl v).tx = s.tx := rfl
@[simp] theorem State.setCtl_rx (s : State) (v : SpiCtl) : (s.setCtl v).rx = s.rx := rfl
@[simp] theorem State.setCtl_sclkQ (s : State) (v : SpiCtl) : (s.setCtl v).sclkQ = s.sclkQ := rfl
@[simp] theorem State.setCtl_bcd (s : State) (v : SpiCtl) : (s.setCtl v).bcd = s.bcd := rfl
@[simp] theorem State.setCtl_idx (s : State) (v : SpiCtl) : (s.setCtl v).idx = s.idx := rfl
@[simp] theorem State.setCtl_sync (s : State) (v : SpiCtl) : (s.setCtl v).sync = s.sync := rfl
@[simp] theorem State.setCtl_filt (s : State) (v : SpiCtl) : (s.setCtl v).filt = s.filt := rfl

@[simp] theorem State.setTx_cfg (s : State) (v : Nat) : (s.setTx v).cfg = s.cfg := rfl
@[simp] theorem State.setTx_inp (s : State) (v : Nat) : (s.setTx v).inp = s.inp := rfl
@[simp] theorem State.setTx_script (s : State) (v : Nat) : (s.setTx v).script = s.script := rfl
@[simp] theorem State.setTx_drawn (s : State) (v : Nat) : (s.setTx v).drawn = s.drawn := rfl
@[simp] theorem State.setTx_tick (s : State) (v : Nat) : (s.setTx v).tick = s.tick := rfl
@[simp] theorem State.setTx_dispTick (s : State) (v : Nat) : (s.setTx v).dispTick = s.dispTick := rfl
@[simp] theorem State.setTx_ctl (s : State) (v : Nat) : (s.setTx v).ctl = s.ctl := rfl
@[simp] theorem State.setTx_tx (s : State) (v : Nat) : (s.setTx v).tx = v := rfl
@[simp] theorem State.setTx_rx (s : State) (v : Nat) : (s.setTx v).rx = s.rx := rfl
@[simp] theorem State.setTx_sclkQ (s : State) (v : Nat) : (s.setTx v).sclkQ = s.sclkQ := rfl
@[simp] theorem State.setTx_bcd (s : State) (v : Nat) : (s.setTx v).bcd = s.bcd := rfl
@[simp] theorem State.setTx_idx (s : State) (v : Nat) : (s.setTx v).idx = s.idx := rfl
@[simp] theorem State.setTx_sync (s : State) (v : Nat) : (s.setTx v).sync = s.sync := rfl
@[simp] theorem State.setTx_filt (s : State) (v : Nat) : (s.setTx v).filt = s.filt := rfl

@[simp] theorem State.setRx_cfg (s : State) (v : Nat) : (s.setRx v).cfg = s.cfg := rfl
@[simp] theorem State.setRx_inp (s : State) (v : Nat) : (s.setRx v).inp = s.inp := rfl
@[simp] theorem State.setRx_script (s : State) (v : Nat) : (s.setRx v).script = s.script := rfl
@[simp] theorem State.setRx_drawn (s : State) (v : Nat) : (s.setRx v).drawn = s.drawn := rfl
@[simp] theorem State.setRx_tick (s : State) (v : Nat) : (s.setRx v).tick = s.tick := rfl
@[simp] theorem State.setRx_dispTick (s : State) (v : Nat) : (s.setRx v).dispTick = s.dispTick := rfl
@[simp] theorem State.setRx_ctl (s : State) (v : Nat) : (s.setRx v).ctl = s.ctl := rfl
@[simp] theorem State.setRx_tx (s : State) (v : Nat) : (s.setRx v).tx = s.tx := rfl
@[simp] theorem State.setRx_rx (s : State) (v : Nat) : (s.setRx v).rx = v := rfl
@[simp] theorem State.setRx_sclkQ (s : State) (v : Nat) : (s.setRx v).sclkQ = s.sclkQ := rfl
@[simp] theorem State.setRx_bcd (s : State) (v : Nat) : (s.setRx v).bcd = s.bcd := rfl
@[simp] theorem State.setRx_idx (s : State) (v : Nat) : (s.setRx v).idx = s.idx := rfl
@[simp] theorem State.setRx_sync (s : State) (v : Nat) : (s.setRx v).sync = s.sync := rfl
@[simp] theorem State.setRx_filt (s : State) (v : Nat) : (s.setRx v).filt = s.filt := rfl

@[simp] theorem State.setSclkQ_cfg (s : State) (v : Bool) : (s.setSclkQ v).cfg = s.cfg := rfl
@[simp] theorem State.setSclkQ_inp (s : State) (v : Bool) : (s.setSclkQ v).inp = s.inp := rfl
@[simp] theorem State.setSclkQ_script (s : State) (v : Bool) : (s.setSclkQ v).script = s.script := rfl
@[simp] theorem State.setSclkQ_drawn (s : State) (v : Bool) : (s.setSclkQ v).drawn = s.drawn := rfl
@[simp] theorem State.setSclkQ_tick (s : State) (v : Bool) : (s.setSclkQ v).tick = s.tick := rfl
@[simp] theorem State.setSclkQ_dispTick (s : State) (v : Bool) : (s.setSclkQ v).dispTick = s.dispTick := rfl
@[simp] theorem State.setSclkQ_ctl (s : State) (v : Bool) : (s.setSclkQ v).ctl = s.ctl := rfl
@[simp] theorem State.setSclkQ_tx (s : State) (v : Bool) : (s.setSclkQ v).tx = s.tx := rfl
@[simp] theorem State.setSclkQ_rx (s : State) (v : Bool) : (s.setSclkQ v).rx = s.rx := rfl
@[simp] theorem State.setSclkQ_sclkQ (s : State) (v : Bool) : (s.setSclkQ v).sclkQ = v := rfl
@[simp] theorem State.setSclkQ_bcd (s : State) (v : Bool) : (s.setSclkQ v).bcd = s.bcd := rfl
@[simp] theorem State.setSclkQ_idx (s : State) (v : Bool) : (s.setSclkQ v).idx = s.idx := rfl
@[simp] theorem State.setSclkQ_sync (s : State) (v : Bool) : (s.setSclkQ v).sync = s.sync := rfl
@[simp] theorem State.setSclkQ_filt (s : State) (v : Bool) : (s.setSclkQ v).filt = s.filt := rfl

@[simp] theorem State.setBcd_cfg (s : State) (v : Bcd) : (s.setBcd v).cfg = s.cfg := rfl
@[simp] theorem State.setBcd_inp (s : State) (v : Bcd) : (s.setBcd v).inp = s.inp := rfl
@[simp] theorem State.setBcd_script (s : State) (v : Bcd) : (s.setBcd v).script = s.script := rfl
@[simp] theorem State.setBcd_drawn (s : State) (v : Bcd) : (s.setBcd v).drawn = s.drawn := rfl
@[simp] theorem State.setBcd_tick (s : State) (v : Bcd) : (s.setBcd v).tick = s.tick := rfl
@[simp] theorem State.setBcd_dispTick (s : State) (v : Bcd) : (s.setBcd v).dispTick = s.dispTick := rfl
@[simp] theorem State.setBcd_ctl (s : State) (v : Bcd) : (s.setBcd v).ctl = s.ctl := rfl
@[simp] theorem State.setBcd_tx (s : State) (v : Bcd) : (s.setBcd v).tx = s.tx := rfl
@[simp] theorem State.setBcd_rx (s : State) (v : Bcd) : (s.setBcd v).rx = s.rx := rfl
@[simp] theorem State.setBcd_sclkQ (s : State) (v : Bcd) : (s.setBcd v).sclkQ = s.sclkQ := rfl
@[simp] theorem State.setBcd_bcd (s : State) (v : Bcd) : (s.setBcd v).bcd = v := rfl
@[simp] theorem State.setBcd_idx (s : State) (v : Bcd) : (s.setBcd v).idx = s.idx := rfl
@[simp] theorem State.setBcd_sync (s : State) (v : Bcd) : (s.setBcd v).sync = s.sync := rfl
@[simp] theorem State.setBcd_filt (s : State) (v : Bcd) : (s.setBcd v).filt = s.filt := rfl

@[simp] theorem State.setIdx_cfg (s : State) (v : BitVec 2) : (s.setIdx v).cfg = s.cfg := rfl
@[simp] theorem State.setIdx_inp (s : State) (v : BitVec 2) : (s.setIdx v).inp = s.inp := rfl
@[simp] theorem State.setIdx_script (s : State) (v : BitVec 2) : (s.setIdx v).script = s.script := rfl
@[simp] theorem State.setIdx_drawn (s : State) (v : BitVec 2) : (s.setIdx v).drawn = s.drawn := rfl
@[simp] theorem State.setIdx_tick (s : State) (v : BitVec 2) : (s.setIdx v).tick = s.tick := rfl
@[simp] theorem State.setIdx_dispTick (s : State) (v : BitVec 2) : (s.setIdx v).dispTick = s.dispTick := rfl
@[simp] theorem State.setIdx_ctl (s : State) (v : BitVec 2) : (s.setIdx v).ctl = s.ctl := rfl
@[simp] theorem State.setIdx_tx (s : State) (v : BitVec 2) : (s.setIdx v).tx = s.tx := rfl
@[simp] theorem State.setIdx_rx (s : State) (v : BitVec 2) : (s.setIdx v).rx = s.rx := rfl
@[simp] theorem State.setIdx_sclkQ (s : State) (v : BitVec 2) : (s.setIdx v).sclkQ = s.sclkQ := rfl
@[simp] theorem State.setIdx_bcd (s : State) (v : BitVec 2) : (s.setIdx v).bcd = s.bcd := rfl
@[simp] theorem State.setIdx_idx (s : State) (v : BitVec 2) : (s.setIdx v).idx = v := rfl
@[simp] theorem State.setIdx_sync (s : State) (v : BitVec 2) : (s.setIdx v).sync = s.sync := rfl
@[simp] theorem State.setIdx_filt (s : State) (v : BitVec 2) : (s.setIdx v).filt = s.filt := rfl

@[simp] theorem State.setSync_cfg (s : State) (v : DbSync) : (s.setSync v).cfg = s.cfg := rfl
@[simp] theorem State.setSync_inp (s : State) (v : DbSync) : (s.setSync v).inp = s.inp := rfl
@[simp] theorem State.setSync_script (s : State) (v : DbSync) : (s.setSync v).script = s.script := rfl
@[simp] theorem State.setSync_drawn (s : State) (v : DbSync) : (s.setSync v).drawn = s.drawn := rfl
@[simp] theorem State.setSync_tick (s : State) (v : DbSync) : (s.setSync v).tick = s.tick := rfl
@[simp] theorem State.setSync_dispTick (s : State) (v : DbSync) : (s.setSync v).dispTick = s.dispTick := rfl
@[simp] theorem State.setSync_ctl (s : State) (v : DbSync) : (s.setSync v).ctl = s.ctl := rfl
@[simp] theorem State.setSync_tx (s : State) (v : DbSync) : (s.setSync v).tx = s.tx := rfl
@[simp] theorem State.setSync_rx (s : State) (v : DbSync) : (s.setSync v).rx = s.rx := rfl
@[simp] theorem State.setSync_sclkQ (s : State) (v : DbSync) : (s.setSync v).sclkQ = s.sclkQ := rfl
@[simp] theorem State.setSync_bcd (s : State) (v : DbSync) : (s.setSync v).bcd = s.bcd := rfl
@[simp] theorem State.setSync_idx (s : State) (v : DbSync) : (s.setSync v).idx = s.idx := rfl
@[simp] theorem State.setSync_sync (s : State) (v : DbSync) : (s.setSync v).sync = v := rfl
@[simp] theorem State.setSync_filt (s : State) (v : DbSync) : (s.setSync v).filt = s.filt := rfl

@[simp] theorem State.setFilt_cfg (s : State) (v : DbFilt) : (s.setFilt v).cfg = s.cfg := rfl
@[simp] theorem State.setFilt_inp (s : State) (v : DbFilt) : (s.setFilt v).inp = s.inp := rfl
@[simp] theorem State.setFilt_script (s : State) (v : DbFilt) : (s.setFilt v).script = s.script := rfl
@[simp] theorem State.setFilt_drawn (s : State) (v : DbFilt) : (s.setFilt v).drawn = s.drawn := rfl
@[simp] theorem State.setFilt_tick (s : State) (v : DbFilt) : (s.setFilt v).tick = s.tick := rfl
@[simp] theorem State.setFilt_dispTick (s : State) (v : DbFilt) : (s.setFilt v).dispTick = s.dispTick := rfl
@[simp] theorem State.setFilt_ctl (s : State) (v : DbFilt) : (s.setFilt v).ctl = s.ctl := rfl
@[simp] theorem State.setFilt_tx (s : State) (v : DbFilt) : (s.setFilt v).tx = s.tx := rfl
@[simp] theorem State.setFilt_rx (s : State) (v : DbFilt) : (s.setFilt v).rx = s.rx := rfl
@[simp] theorem State.setFilt_sclkQ (s : State) (v : DbFilt) : (s.setFilt v).sclkQ = s.sclkQ := rfl
@[simp] theorem State.setFilt_bcd (s : State) (v : DbFilt) : (s.setFilt v).bcd = s.bcd := rfl
@[simp] theorem State.setFilt_idx (s : State) (v : DbFilt) : (s.setFilt v).idx = s.idx := rfl
@[simp] theorem State.setFilt_sync (s : State) (v : DbFilt) : (s.setFilt v).sync = s.sync := rfl
@[simp] theorem State.setFilt_filt (s : State) (v : DbFilt) : (s.setFilt v).filt = v := rfl

@[simp] theorem State.drive_cfg (s : State) (v : Inputs) : (s.drive v).cfg = s.cfg := rfl
@[simp] theorem State.drive_inp (s : State) (v : Inputs) : (s.drive v).inp = v := rfl
@[simp] theorem State.drive_script (s : State) (v : Inputs) : (s.drive v).script = s.script := rfl
@[simp] theorem State.drive_drawn (s : State) (v : Inputs) : (s.drive v).drawn = s.drawn := rfl
@[simp] theorem State.drive_tick (s : State) (v : Inputs) : (s.drive v).tick = s.tick := rfl
@[simp] theorem State.drive_dispTick (s : State) (v : Inputs) : (s.drive v).dispTick = s.dispTick := rfl
@[simp] theorem State.drive_ctl (s : State) (v : Inputs) : (s.drive v).ctl = s.ctl := rfl
@[simp] theorem State.drive_tx (s : State) (v : Inputs) : (s.drive v).tx = s.tx := rfl
@[simp] theorem State.drive_rx (s : State) (v : Inputs) : (s.drive v).rx = s.rx := rfl
@[simp] theorem State.drive_sclkQ (s : State) (v : Inputs) : (s.drive v).sclkQ = s.sclkQ := rfl
@[simp] theorem State.drive_bcd (s : State) (v : Inputs) : (s.drive v).bcd = s.bcd := rfl
@[simp] theorem State.drive_idx (s : State) (v : Inputs) : (s.drive v).idx = s.idx := rfl
@[simp] theorem State.drive_sync (s : State) (v : Inputs) : (s.drive v).sync = s.sync := rfl
@[simp] theorem State.drive_filt (s : State) (v : Inputs) : (s.drive v).filt = s.filt := rfl

@[simp] theorem State.setTick_cfg (s : State) (t : TickInst) (v : Nat) : (s.setTick t v).cfg = s.cfg := by
  cases t <;> rfl
@[simp] theorem State.setTick_inp (s : State) (t : TickInst) (v : Nat) : (s.setTick t v).inp = s.inp := by
  cases t <;> rfl
@[simp] theorem State.setTick_script (s : State) (t : TickInst) (v : Nat) : (s.setTick t v).script = s.script := by
  cases t <;> rfl
@[simp] theorem State.setTick_drawn (s : State) (t : TickInst) (v : Nat) : (s.setTick t v).drawn = s.drawn := by
  cases t <;> rfl
@[simp] theorem State.setTick_ctl (s : State) (t : TickInst) (v : Nat) : (s.setTick t v).ctl = s.ctl := by
  cases t <;> rfl
@[simp] theorem State.setTick_tx (s : State) (t : TickInst) (v : Nat) : (s.setTick t v).tx = s.tx := by
  cases t <;> rfl
@[simp] theorem State.setTick_rx (s : State) (t : TickInst) (v : Nat) : (s.setTick t v).rx = s.rx := by
  cases t <;> rfl
@[simp] theorem State.setTick_sclkQ (s : State) (t : TickInst) (v : Nat) : (s.setTick t v).sclkQ = s.sclkQ := by
  cases t <;> rfl
@[simp] theorem State.setTick_bcd (s : State) (t : TickInst) (v : Nat) : (s.setTick t v).bcd = s.bcd := by
  cases t <;> rfl
@[simp] theorem State.setTick_idx (s : State) (t : TickInst) (v : Nat) : (s.setTick t v).idx = s.idx := by
  cases t <;> rfl
@[simp] theorem State.setTick_sync (s : State) (t : TickInst) (v : Nat) : (s.setTick t v).sync = s.sync := by
  cases t <;> rfl
@[simp] theorem State.setTick_filt (s : State) (t : TickInst) (v : Nat) : (s.setTick t v).filt = s.filt := by
  cases t <;> rfl

@[simp] theorem State.setTick_standalone_tick (s : State) (v : Nat) :
    (s.setTick .standalone v).tick = v := rfl
@[simp] theorem State.setTick_standalone_dispTick (s : State) (v : Nat) :
    (s.setTick .standalone v).dispTick = s.dispTick := rfl
@[simp] theorem State.setTick_display_tick (s : State) (v : Nat) :
    (s.setTick .display v).tick = s.tick := rfl
@[simp] theorem State.setTick_display_dispTick (s : State) (v : Nat) :
    (s.setTick .display v).dispTick = v := rfl
@[simp] theorem State.setTick_tickCnt (s : State) (t : TickInst) (v : Nat) :
    (s.setTick t v).tickCnt t = v := by
  cases t <;> rfl
@[simp] theorem State.tickCnt_standalone (s : State) : s.tickCnt .standalone = s.tick := rfl
@[simp] theorem State.tickCnt_display (s : State) : s.tickCnt .display = s.dispTick := rfl

@[simp] theorem State.resetRegisters_cfg (s : State) :
    s.resetRegisters.cfg = s.cfg := rfl
@[simp] theorem State.resetRegisters_inp (s : State) :
    s.resetRegisters.inp = s.inp := rfl
@[simp] theorem State.resetRegisters_script (s : State) :
    s.resetRegisters.script = s.script := rfl
@[simp] theorem State.resetRegisters_drawn (s : State) :
    s.resetRegisters.drawn = s.drawn := rfl
@[simp] theorem State.resetRegisters_tick (s : State) :
    s.resetRegisters.tick = s.cfg.tick.init := rfl
@[simp] theorem State.resetRegisters_dispTick (s : State) :
    s.resetRegisters.dispTick = s.cfg.dispTick.init := rfl
@[simp] theorem State.resetRegisters_ctl (s : State) :
    s.resetRegisters.ctl = { state := .idle, div := s.cfg.spiDiv, edges := 2 * s.cfg.spiW, sclk := false } := rfl
@[simp] theorem State.resetRegisters_tx (s : State) :
    s.resetRegisters.tx = 0 := rfl
@[simp] theorem State.resetRegisters_rx (s : State) :
    s.resetRegisters.rx = 0 := rfl
@[simp] theorem State.resetRegisters_sclkQ (s : State) :
    s.resetRegisters.sclkQ = false := rfl
@[simp] theorem State.resetRegisters_bcd (s : State) :
    s.resetRegisters.bcd = { work := 0, acc := 0, cnt := 0, active := false, fix := false, out := 0 } := rfl
@[simp] theorem State.resetRegisters_idx (s : State) :
    s.resetRegisters.idx = 0 := rfl
@[simp] theorem State.resetRegisters_sync (s : State) :
    s.resetRegisters.sync = { s1 := s.cfg.debInit, s2 := s.cfg.debInit } := rfl
@[simp] theorem State.resetRegisters_filt (s : State) :
    s.resetRegisters.filt = { stable := s.cfg.debInit, cnt := 0, up := false, down := false } := rfl

@[simp] theorem State.advance_cfg (s : State) : s.advance.cfg = s.cfg := by
  unfold State.advance; split <;> rfl
@[simp] theorem State.advance_tick (s : State) : s.advance.tick = s.tick := by
  unfold State.advance; split <;> rfl
@[simp] theorem State.advance_dispTick (s : State) : s.advance.dispTick = s.dispTick := by
  unfold State.advance; split <;> rfl
@[simp] theorem State.advance_ctl (s : State) : s.advance.ctl = s.ctl := by
  unfold State.advance; split <;> rfl
@[simp] theorem State.advance_tx (s : State) : s.advance.tx = s.tx := by
  unfold State.advance; split <;> rfl
@[simp] theorem State.advance_rx (s : State) : s.advance.rx = s.rx := by
  unfold State.advance; split <;> rfl
@[simp] theorem State.advance_sclkQ (s : State) : s.advance.sclkQ = s.sclkQ := by
  unfold State.advance; split <;> rfl
@[simp] theorem State.advance_bcd (s : State) : s.advance.bcd = s.bcd := by
  unfold State.advance; split <;> rfl
@[simp] theorem State.advance_idx (s : State) : s.advance.idx = s.idx := by
  unfold State.advance; split <;> rfl
@[simp] theorem State.advance_sync (s : State) : s.advance.sync = s.sync := by
  unfold State.advance; split <;> rfl
@[simp] theorem State.advance_filt (s : State) : s.advance.filt = s.filt := by
  unfold State.advance; split <;> rfl

theorem State.advance_of_cons (s : State) (i : Inputs) (rest : List Inputs)
    (h : s.script = i :: rest) : s.advance = { s with inp := i, script := rest } := by
  unfold State.advance; rw [h]

theorem State.advance_of_nil (s : State) (h : s.script = []) :
    s.advance = { s with inp := Config.draw s.drawn, drawn := s.drawn + 1 } := by
  unfold State.advance; rw [h]

end Sys2Proof.Machine
end

