-- ==== Sys2Proof/Laws/Cycle.lean ====
section
/-! SUPPORT. What the parts of a cycle can do: one inversion lemma for each, which later proofs cite
instead of unfolding them. -/

namespace Sys2Proof.Machine

/-- A sub-unit's commit answers a next state only by performing the operation its vector selects. -/
theorem commitUnit_next {pre acc acc' : State} {u : SubUnit}
    (h : commitUnit pre acc u = .next acc') :
    ∃ i t, pre.operation u = .ok i ∧ exec i pre = .next t ∧ acc' = acc.adopt u t := by
  unfold commitUnit at h
  split at h
  · cases h
  · rename_i i hi
    split at h
    · rename_i t ht
      cases h
      exact ⟨i, t, hi, ht, rfl⟩
    · cases h
    · cases h

/-- A sub-unit's commit, from the operation its vector selects. -/
theorem commitUnit_of {pre acc t : State} {u : SubUnit} {i : Instr} (hi : pre.operation u = .ok i)
    (ht : exec i pre = .next t) : commitUnit pre acc u = .next (acc.adopt u t) := by
  unfold commitUnit
  rw [hi]
  dsimp only
  rw [ht]

@[simp] theorem commitUnits_nil (pre acc : State) : commitUnits pre [] acc = .next acc := rfl

theorem commitUnits_cons {pre acc acc' : State} {u : SubUnit} {us : List SubUnit}
    (h : commitUnit pre acc u = .next acc') :
    commitUnits pre (u :: us) acc = commitUnits pre us acc' := by
  simp only [commitUnits, h]

/-- A list of commits answers a next state only through the first unit's commit and then the rest. -/
theorem commitUnits_cons_next {pre acc r : State} {u : SubUnit} {us : List SubUnit}
    (h : commitUnits pre (u :: us) acc = .next r) :
    ∃ acc', commitUnit pre acc u = .next acc' ∧ commitUnits pre us acc' = .next r := by
  unfold commitUnits at h
  split at h
  · rename_i acc' ha
    exact ⟨acc', ha, h⟩
  · cases h
  · cases h

/-- A cycle answers a next state only for a legal configuration, by its commit and the next input
levels. -/
theorem runCycle_next {s s' : State} (h : runCycle s = .next s') :
    s.cfg.wellFormed = true ∧ ∃ t, commitCycle s = .next t ∧ s' = t.advance := by
  unfold runCycle at h
  split at h
  · rename_i hw
    refine ⟨hw, ?_⟩
    split at h
    · rename_i t ht
      cases h
      exact ⟨t, ht, rfl⟩
    · cases h
    · cases h
  · cases h

/-- A cycle, from its commit. -/
theorem runCycle_of {s t : State} (hw : s.cfg.wellFormed = true) (ht : commitCycle s = .next t) :
    runCycle s = .next t.advance := by
  unfold runCycle
  rw [if_pos hw, ht]

theorem step_eq_runCycle (s : State) : step s = runCycle s := rfl

end Sys2Proof.Machine
end

