-- ==== Sys2Proof/Laws/PerInstr.lean ====
section
/-! SUPPORT. A statement about every operation as syntax, one lemma per constructor: its row of R82
stands in the table of its own sub-unit, uses no bit above the sub-unit's width, and sets no bit that
its mask ignores. -/

namespace Sys2Proof.Laws.RowFits

/-- The operation has a row, within its sub-unit's width and its own mask. -/
def Statement (i : Instr) : Prop :=
  ∃ r, i.row = some r ∧ r.op = i ∧ r.pat &&& r.mask = r.pat ∧ r.mask.toNat < 2 ^ i.subUnit.width

theorem reset : Statement .reset := ⟨_, rfl, rfl, rfl, by decide⟩

theorem tgStrobe (t : TickInst) : Statement (.tgStrobe t) := by
  cases t <;> exact ⟨_, rfl, rfl, rfl, by decide⟩

theorem tgCount (t : TickInst) : Statement (.tgCount t) := by
  cases t <;> exact ⟨_, rfl, rfl, rfl, by decide⟩

theorem spiIdle : Statement .spiIdle := ⟨_, rfl, rfl, rfl, by decide⟩

theorem spiStart : Statement .spiStart := ⟨_, rfl, rfl, rfl, by decide⟩

theorem spiWait : Statement .spiWait := ⟨_, rfl, rfl, rfl, by decide⟩

theorem spiToggle : Statement .spiToggle := ⟨_, rfl, rfl, rfl, by decide⟩

theorem spiLastToggle : Statement .spiLastToggle := ⟨_, rfl, rfl, rfl, by decide⟩

theorem spiLoad : Statement .spiLoad := ⟨_, rfl, rfl, rfl, by decide⟩

theorem spiShiftOut : Statement .spiShiftOut := ⟨_, rfl, rfl, rfl, by decide⟩

theorem spiTxHold : Statement .spiTxHold := ⟨_, rfl, rfl, rfl, by decide⟩

theorem spiCapture : Statement .spiCapture := ⟨_, rfl, rfl, rfl, by decide⟩

theorem spiRxHold : Statement .spiRxHold := ⟨_, rfl, rfl, rfl, by decide⟩

theorem spiClkDelay : Statement .spiClkDelay := ⟨_, rfl, rfl, rfl, by decide⟩

theorem bcdStart : Statement .bcdStart := ⟨_, rfl, rfl, rfl, by decide⟩

theorem bcdIdle : Statement .bcdIdle := ⟨_, rfl, rfl, rfl, by decide⟩

theorem bcdAdd3 : Statement .bcdAdd3 := ⟨_, rfl, rfl, rfl, by decide⟩

theorem bcdShift : Statement .bcdShift := ⟨_, rfl, rfl, rfl, by decide⟩

theorem bcdLastShift : Statement .bcdLastShift := ⟨_, rfl, rfl, rfl, by decide⟩

theorem dsAdvance : Statement .dsAdvance := ⟨_, rfl, rfl, rfl, by decide⟩

theorem dsHold : Statement .dsHold := ⟨_, rfl, rfl, rfl, by decide⟩

theorem dbSyncShift : Statement .dbSyncShift := ⟨_, rfl, rfl, rfl, by decide⟩

theorem dbMatch : Statement .dbMatch := ⟨_, rfl, rfl, rfl, by decide⟩

theorem dbCount : Statement .dbCount := ⟨_, rfl, rfl, rfl, by decide⟩

theorem dbFlipUp : Statement .dbFlipUp := ⟨_, rfl, rfl, rfl, by decide⟩

theorem dbFlipDown : Statement .dbFlipDown := ⟨_, rfl, rfl, rfl, by decide⟩

end Sys2Proof.Laws.RowFits
end

