-- ==== Sys2Proof/Laws/Run.lean ====
section
/-! SUPPORT. Runs of several cycles: how they are put together, and that they are the host's runs. -/

namespace Sys2Proof.Machine

@[simp] theorem runFor_zero (s : State) : runFor 0 s = .next s := rfl

theorem runFor_succ {s t : State} (k : Nat) (h : step s = .next t) :
    runFor (k + 1) s = runFor k t := by
  simp only [runFor, h]

/-- A run of `k + 1` cycles is a first cycle and a run of `k`. -/
theorem runFor_succ_next {s r : State} {k : Nat} (h : runFor (k + 1) s = .next r) :
    ∃ t, step s = .next t ∧ runFor k t = .next r := by
  unfold runFor at h
  split at h
  · rename_i t ht
    exact ⟨t, ht, h⟩
  · cases h
  · cases h

/-- A run of `j` cycles and then of `k` is a run of `j + k`. -/
theorem runFor_add {s t : State} {j : Nat} (k : Nat) (h : runFor j s = .next t) :
    runFor (j + k) s = runFor k t := by
  induction j generalizing s with
  | zero => cases h; simp
  | succ j ih =>
    obtain ⟨u, hu, hr⟩ := runFor_succ_next h
    rw [Nat.succ_add, runFor_succ _ hu]
    exact ih hr

theorem After.intro {s t : State} {k : Nat} {P : State → Prop} (h : runFor k s = .next t)
    (hp : P t) : After s k P := ⟨t, h, hp⟩

/-- What holds after `k` cycles and implies `P` one cycle later gives `P` after `k + 1`. -/
theorem After.succ {s : State} {k : Nat} {P Q : State → Prop} (h : After s k P)
    (hs : ∀ t, P t → ∃ u, step t = .next u ∧ Q u) : After s (k + 1) Q := by
  obtain ⟨t, ht, hp⟩ := h
  obtain ⟨u, hu, hq⟩ := hs t hp
  exact ⟨u, by rw [runFor_add 1 ht, runFor_succ 0 hu, runFor_zero], hq⟩

/-- `runFor` is the host's run of this core. -/
theorem runFor_eq_core_run (k : Nat) (s : State) : runFor k s = Sys2Proof.core.run k s := by
  induction k generalizing s with
  | zero => rfl
  | succ k ih =>
    have hs : Sys2Proof.core.step s = step s := rfl
    simp only [runFor, Host.Core.run, hs]
    cases step s with
    | next t => exact ih t
    | fault r => rfl
    | refused r => rfl

@[simp] theorem inputsAt_zero (s : State) : s.inputsAt 0 = s.inp := rfl

@[simp] theorem inputsAt_succ (s : State) (k : Nat) :
    s.inputsAt (k + 1) = s.advance.inputsAt k := rfl

end Sys2Proof.Machine
end

