-- ==== Sys2Proof/Tests/Slice0.lean ====
section
/-! SUPPORT. Tests, each a named theorem: ill-formed terms refused, a vector of R82 written out for
every operation, single steps with the expected values of 95_test_vectors.md, and for every
obligation with hypotheses a state and operands that meet them. -/

namespace Sys2Proof.Tests

open Sys2Proof Sys2Proof.Machine

/-! ### The machines of the tests -/

/-- The parameters of most vectors of 95_test_vectors.md: `SPI_W = 4`, `SPI_DIV = 1`, `BCD_W = 10`,
`DEB_N = 3`, `TICK_N = 3`, `DISP_TICK_N = 2`. -/
def cfg : Config :=
  { Config.reference with
    tick := .ofPeriod 3, dispTick := .ofPeriod 2, spiW := 4, spiDiv := 1, debN := 3 }

/-- That machine at power-on. -/
def on : State := State.resetOf cfg

/-- A machine at power-on with parameters `c`, under the levels `f t` in cycles 0 to 40. -/
def under (c : Config) (f : Nat → Inputs) : State :=
  { State.resetOf c with inp := f 0, script := (List.range 40).map (fun t => f (t + 1)) }

/-- All ports low. -/
def low : Inputs := Inputs.zero

/-- What a step leaves in one part of the state. -/
def after {α : Type} (s : State) (f : State → α) : Option α :=
  match step s with
  | .next t => some (f t)
  | _ => none

/-! ### Ill-formed terms are refused (R262, R26, R27) -/

theorem test_spi_width_zero : Config.wellFormed { cfg with spiW := 0 } = false := by decide

theorem test_bcd_width_zero : Config.wellFormed { cfg with bcdW := 0 } = false := by decide

theorem test_debounce_zero : Config.wellFormed { cfg with debN := 0 } = false := by decide

theorem test_tick_init_too_large :
    Config.wellFormed { cfg with tick := { n := 3, init := 3 } } = false := by decide

theorem test_disp_tick_init_too_large :
    Config.wellFormed { cfg with dispTick := { n := 0, init := 1 } } = false := by decide

theorem test_segment_table_short :
    Config.wellFormed { cfg with segTable := [0x3F] } = false := by decide

theorem test_legal_configurations :
    Config.reference.wellFormed = true ∧ cfg.wellFormed = true ∧
      Config.wellFormed { cfg with tick := .ofPeriod 0, spiW := 1, spiDiv := 0, bcdW := 1,
                                   debN := 1 } = true := by decide

theorem test_cmd_too_wide : Inputs.wellFormed cfg { low with cmd := 16 } = false := by decide

theorem test_din_too_wide : Inputs.wellFormed cfg { low with din := 1024 } = false := by decide

theorem test_illegal_configuration_refused :
    step (State.resetOf { cfg with spiW := 0 }) = .refused .illegalConfiguration := by rfl

/-! ### Decoding, from the rows of R82 written out -/

theorem test_decode_block : decode .block 0b1 = .ok .reset ∧
    decode .block 0b0 = .error (.noOperation .block) := ⟨rfl, rfl⟩

theorem test_decode_tg : decode (.tg .standalone) 0b1 = .ok (.tgStrobe .standalone) ∧
    decode (.tg .standalone) 0b0 = .ok (.tgCount .standalone) ∧
    decode (.tg .display) 0b1 = .ok (.tgStrobe .display) ∧
    decode (.tg .display) 0b0 = .ok (.tgCount .display) := ⟨rfl, rfl, rfl, rfl⟩

theorem test_decode_spi_ctl : decode .spiCtl 0b1100 = .ok .spiIdle ∧
    decode .spiCtl 0b0101 = .ok .spiStart ∧ decode .spiCtl 0b1011 = .ok .spiWait ∧
    decode .spiCtl 0b0111 = .ok .spiToggle ∧ decode .spiCtl 0b1110 = .ok .spiLastToggle :=
  ⟨rfl, rfl, rfl, rfl, rfl⟩

theorem test_decode_spi_tx : decode .spiTx 0b11 = .ok .spiLoad ∧
    decode .spiTx 0b10 = .ok .spiShiftOut ∧ decode .spiTx 0b00 = .ok .spiTxHold :=
  ⟨rfl, rfl, rfl⟩

theorem test_decode_spi_rx_dly : decode .spiRx 0b1 = .ok .spiCapture ∧
    decode .spiRx 0b0 = .ok .spiRxHold ∧ decode .spiDly 0 = .ok .spiClkDelay := ⟨rfl, rfl, rfl⟩

theorem test_decode_bcd : decode .bcd 0b1111 = .ok .bcdStart ∧
    decode .bcd 0b1100 = .ok .bcdIdle ∧ decode .bcd 0b1110 = .ok .bcdAdd3 ∧
    decode .bcd 0b0010 = .ok .bcdShift ∧ decode .bcd 0b1010 = .ok .bcdLastShift :=
  ⟨rfl, rfl, rfl, rfl, rfl⟩

theorem test_decode_ds : decode .ds 0b1 = .ok .dsAdvance ∧ decode .ds 0b0 = .ok .dsHold :=
  ⟨rfl, rfl⟩

theorem test_decode_db : decode .dbSync 0 = .ok .dbSyncShift ∧
    decode .dbFilt 0b110 = .ok .dbMatch ∧ decode .dbFilt 0b101 = .ok .dbCount ∧
    decode .dbFilt 0b111 = .ok .dbFlipUp ∧ decode .dbFilt 0b011 = .ok .dbFlipDown :=
  ⟨rfl, rfl, rfl, rfl, rfl⟩

theorem test_decode_rejects : decode .spiTx 0b100 = .error (.vectorTooWide .spiTx) ∧
    decodeWord 0x0010 = .error .reservedBits ∧ decodeWord 0x0C00 = .error .noSubUnit ∧
    decodeWord 0x0004 = .error .noTableRow := ⟨rfl, rfl, rfl, rfl⟩

theorem test_tool_words : decodeWord 0x0406 = .ok .spiToggle ∧ encodeWord .spiToggle = some 0x0406 ∧
    decodeWord 0x0B07 = .ok .dbFlipUp ∧ encodeWord .dbFlipUp = some 0x0B07 :=
  ⟨rfl, rfl, rfl, rfl⟩

theorem test_table_words : decodeTableWord 8 0b1110 = some .spiLastToggle ∧
    decodeTableWord 8 0b1 = some .reset ∧
    step (State.reset.withFetchWord 8 0b1) = .next (State.reset.arrange .reset).advance :=
  ⟨rfl, rfl, rfl⟩

/-! ### Single steps (95_test_vectors.md) -/

/-- V-RST-1: power-on, with a reset of a machine in the middle of everything. -/
theorem test_reset :
    after { on with inp := { low with rst := true, en := true }, tick := 0, tx := 11, rx := 5,
                    ctl := { state := .transfer, div := 0, edges := 1, sclk := true } }
        (fun t => (t.tick, t.ctl, t.tx, t.rx)) =
      some (2, { state := .idle, div := 1, edges := 8, sclk := false }, 0, 0) := by decide

/-- V-RST-1: `dig = 0001`, `done = 1` and the `cs` pin 1. -/
theorem test_power_on_outputs :
    on.outputs.dig = 0b0001 ∧ on.outputs.spiDone = true ∧ on.outputs.cs = true ∧
      State.reset.ctl.div = 63 ∧ State.reset.ctl.edges = 48 := by decide

/-- V-TG-2. -/
theorem test_tg_strobe : after { on with tick := 0 } (·.tick) = some 2 ∧
    after { on with cfg := { cfg with tick := .ofPeriod 1 }, tick := 0 } (·.tick) = some 0 := by
  decide

/-- V-TG-2. -/
theorem test_tg_count : after { on with tick := 2 } (·.tick) = some 1 ∧
    after { on with tick := 1 } (·.tick) = some 0 := by decide

/-- V-SPI-7. -/
theorem test_spi_idle :
    after { on with ctl := { state := .idle, div := 1, edges := 0, sclk := false } } (·.ctl) =
      some { state := .idle, div := 1, edges := 8, sclk := false } := by decide

/-- V-SPI-7, with SPI_LOAD in the same cycle. -/
theorem test_spi_start_and_load :
    after { on with inp := { low with en := true, cmd := 0b1011 } } (fun t => (t.ctl, t.tx)) =
      some ({ state := .transfer, div := 1, edges := 8, sclk := false }, 0b1011) := by decide

/-- V-SPI-7. -/
theorem test_spi_wait :
    after { on with ctl := { state := .transfer, div := 1, edges := 8, sclk := false } } (·.ctl) =
      some { state := .transfer, div := 0, edges := 8, sclk := false } := by decide

/-- V-SPI-7. -/
theorem test_spi_toggle :
    after { on with ctl := { state := .transfer, div := 0, edges := 8, sclk := false } } (·.ctl) =
      some { state := .transfer, div := 1, edges := 7, sclk := true } := by decide

/-- V-SPI-7. -/
theorem test_spi_last_toggle :
    after { on with ctl := { state := .transfer, div := 0, edges := 1, sclk := true } } (·.ctl) =
      some { state := .idle, div := 1, edges := 0, sclk := false } := by decide

/-- V-SPI-7: `shp = 1` is a fall of the bus clock when the capture edge is RISE. -/
theorem test_spi_shift_out : after { on with tx := 0b1011, sclkQ := true } (·.tx) = some 0b0110 := by
  decide

/-- V-SPI-7. -/
theorem test_spi_tx_hold : after { on with tx := 0b0110 } (·.tx) = some 0b0110 := by decide

/-- V-SPI-7: `cap = 1` is a rise of the bus clock; and the same rise shifts `tx` with FALL. -/
theorem test_spi_capture :
    after { on with rx := 0b0011, ctl := { on.ctl with sclk := true } } (·.rx) = some 0b0110 ∧
    after { on with rx := 0b0110, ctl := { on.ctl with sclk := true },
                    inp := { low with miso := true } } (·.rx) = some 0b1101 := by decide

/-- V-SPI-7, and V-SPI-2: with FALL a rise does not capture. -/
theorem test_spi_rx_hold :
    after { on with rx := 0b1101, inp := { low with miso := true } } (·.rx) = some 0b1101 ∧
    after { on with cfg := { cfg with captureEdge := .fall }, rx := 0b1101,
                    ctl := { on.ctl with sclk := true } } (·.rx) = some 0b1101 := by decide

/-- V-SPI-7. -/
theorem test_spi_clk_delay :
    after { on with ctl := { on.ctl with sclk := true } } (·.sclkQ) = some true := by decide

/-- V-BCD-5. -/
theorem test_bcd_start :
    after { on with inp := { low with enable := true, din := 1023 }, bcd := { on.bcd with out := 7 } }
        (·.bcd) =
      some { work := 1023, acc := 0, cnt := 10, active := true, fix := false, out := 7 } := by
  decide

/-- V-BCD-5. -/
theorem test_bcd_idle :
    after { on with bcd := { on.bcd with out := 0x1023, acc := 0x0255 } } (·.bcd) =
      some { work := 0, acc := 0x0255, cnt := 0, active := false, fix := false, out := 0x1023 } := by
  decide

/-- V-BCD-5: nibbles 0 and 1 both corrected. -/
theorem test_bcd_add3 :
    after { on with bcd := { on.bcd with active := true, cnt := 4, acc := 0x0063 } }
        (fun t => (t.bcd.acc, t.bcd.fix, t.bcd.cnt)) = some (0x0093, true, 4) := by decide

/-- R172: the correction saturates at 15 and does not carry. -/
theorem test_bcd_add3_saturates :
    after { on with bcd := { on.bcd with active := true, cnt := 4, acc := 0x0EF5 } }
        (·.bcd.acc) = some 0x0FF8 := by decide

/-- V-BCD-5 and its corner vector. -/
theorem test_bcd_shift :
    after { on with cfg := { cfg with bcdW := 8 },
                    bcd := { work := 0b11111000, acc := 0x000A, cnt := 5, active := true,
                             fix := true, out := 0 } } (·.bcd) =
      some { work := 0b11110000, acc := 0x0015, cnt := 4, active := true, fix := false,
             out := 0 } ∧
    after { on with bcd := { work := 512, acc := 0x0008, cnt := 3, active := true, fix := true,
                             out := 0 } } (·.bcd.acc) = some 0x0011 := by decide

/-- V-BCD-5. -/
theorem test_bcd_last_shift :
    after { on with cfg := { cfg with bcdW := 8 },
                    bcd := { work := 0b10000000, acc := 0x012A, cnt := 1, active := true,
                             fix := true, out := 0 } } (·.bcd) =
      some { work := 0, acc := 0x0255, cnt := 0, active := false, fix := false,
             out := 0x0255 } := by decide

/-- V-DS-4. -/
theorem test_ds_advance : after { on with idx := 3, dispTick := 0 } (·.idx) = some 0 ∧
    after { on with idx := 0, dispTick := 0 } (·.idx) = some 1 := by decide

/-- V-DS-4. -/
theorem test_ds_hold : after { on with idx := 2, dispTick := 1 } (·.idx) = some 2 := by decide

/-- V-DS-3, cycles 1 and 2: the segments follow `digits` in the same cycle. -/
theorem test_ds_pins :
    { on with idx := 1, inp := { low with digits := 0x1023 } }.outputs.seg = 0x5B ∧
    { on with idx := 1, inp := { low with digits := 0x4567 } }.outputs.seg = 0x7D ∧
    { on with idx := 1 }.outputs.dig = 0b0010 ∧
    { on with cfg := { cfg with digActiveLow := true }, idx := 1 }.outputs.dig = 0b1101 := by
  decide

/-- V-DB-1, cycle 1. -/
theorem test_db_sync_shift :
    after { on with inp := { low with aIn := true }, sync := { s1 := false, s2 := true } } (·.sync) =
      some { s1 := true, s2 := false } := by decide

/-- V-DB-2, cycle 4. -/
theorem test_db_match :
    after { on with filt := { stable := false, cnt := 1, up := false, down := true } } (·.filt) =
      some { stable := false, cnt := 0, up := false, down := false } := by decide

/-- V-DB-1, cycle 4. -/
theorem test_db_count :
    after { on with sync := { s1 := true, s2 := true }, filt := { on.filt with cnt := 1 } } (·.filt) =
      some { stable := false, cnt := 2, up := false, down := false } := by decide

/-- V-DB-1, cycle 5. -/
theorem test_db_flip_up :
    after { on with sync := { s1 := true, s2 := true }, filt := { on.filt with cnt := 2 } } (·.filt) =
      some { stable := true, cnt := 0, up := true, down := false } := by decide

/-- V-DB-1, cycle 13. -/
theorem test_db_flip_down :
    after { on with filt := { stable := true, cnt := 2, up := false, down := false } } (·.filt) =
      some { stable := false, cnt := 0, up := false, down := true } := by decide

/-- V-DB-4, cycle 4: with `DEB_N = 1` the flip back comes in the cycle after the flip (log 23). -/
theorem test_db_flip_back_at_deb_one :
    after { on with cfg := { cfg with debN := 1 },
                    filt := { stable := true, cnt := 0, up := true, down := false } } (·.filt) =
      some { stable := false, cnt := 0, up := false, down := true } := by decide

/-- E6: channel 0 gives `0x018000`, channel 2 `0x01A000`, channel 7 `0x01F000`. -/
theorem test_command_words : commandWord 0 = 0x018000 ∧ commandWord 2 = 0x01A000 ∧
    commandWord 7 = 0x01F000 := by decide

/-- P2: the input words `0x2D` and `0x2E`; P1: `0x7FF`; P5: `0x00F`. -/
theorem test_input_words :
    (encodeInputs cfg { low with en := true, cmd := 0b1011 }).spi = 0x2D ∧
    (encodeInputs cfg { low with miso := true, cmd := 0b1011 }).spi = 0x2E ∧
    (encodeInputs cfg { low with enable := true, din := 1023 }).bcd = 0x7FF ∧
    (encodeInputs cfg { low with enable := true, din := 7 }).bcd = 0x00F := by decide

/-- Two lines out of the order of their cycles: the one written last wins from its cycle on (the model's
choice, log 24), and before cycle 3 both readings give the line of cycle 1. -/
theorem test_script_lines_in_written_order :
    (scriptInputs [{ cycle := 3, sets := [.din 7] }, { cycle := 1, sets := [.din 5] }] 3).din = 5 ∧
    (scriptInputs [{ cycle := 3, sets := [.din 7] }, { cycle := 1, sets := [.din 5] }] 2).din = 5 ∧
    (scriptInputs [{ cycle := 1, sets := [.din 5] }, { cycle := 3, sets := [.din 7] }] 3).din = 7 := by
  decide

/-- R108: `TICK_N` for 240 Hz at 12 MHz, and R107's rounding to 0. -/
theorem test_tick_n : tickN 12000000 1 240 = 50000 ∧ tickN 1 1 3 = 0 := by decide

/-! ### Witnesses: a state and operands that meet each obligation's hypotheses -/

theorem witness_EveryVectorSelectsExactlyOneRow :
    (SubUnit.spiCtl ≠ .block ∧ (15 : Vec).toNat < 2 ^ SubUnit.spiCtl.width) ∧
      SubUnit.spiDly ≠ .block ∧ (0 : Vec).toNat < 2 ^ SubUnit.spiDly.width := by decide

theorem witness_DecodeInvertsEncode :
    Instr.dbMatch.wellFormed = true ∧ decode Instr.dbMatch.subUnit 0b110 = .ok .dbMatch :=
  ⟨rfl, rfl⟩

theorem witness_InputWordsPackAndUnpack :
    Inputs.wellFormed cfg { low with cmd := 15, din := 1023, digits := 0xFFFF } = true := by decide

theorem witness_LoadedScriptDrivesItsCycles :
    0 < 1 ∧ (on.load [{ cycle := 1, sets := [.miso true] }] 2).inputsAt 1 =
      { low with miso := true } := by decide

theorem witness_StepRunsTheDecodedOperations :
    on.cfg.wellFormed = true ∧ on.inp.rst = false ∧
      (on.drive { low with rst := true }).cfg.wellFormed = true ∧
      (on.drive { low with rst := true }).inp.rst = true := by decide

theorem witness_OnlyIllegalConfigurationsAreRefused :
    State.reset.cfg.wellFormed = true ∧
      (State.resetOf { cfg with debN := 0 }).cfg.wellFormed = false := by decide

theorem witness_StepAgreesWithPriorityChains : on.cfg.wellFormed = true := by decide

theorem witness_UnitOrderDoesNotMatter : workingSubUnits.reverse.Perm workingSubUnits := by decide

theorem witness_OperationsWriteOnlyTheirOwnRegisters :
    (∃ t, exec .reset on = .next t) ∧ ∃ t, exec .spiStart on = .next t :=
  ⟨⟨_, rfl⟩, _, rfl⟩

/-- A machine that differs from `on` in everything but its TickGenerators and its SpiMaster. -/
def otherUnits : State :=
  { on with inp := { low with enable := true, din := 9, aIn := true }, idx := 1,
            bcd := { on.bcd with out := 7 }, sync := { s1 := true, s2 := true },
            filt := { on.filt with cnt := 1 } }

/-- A machine that differs from `on` in its own TickGenerator and its SpiMaster. -/
def otherSpi : State :=
  { on with inp := { low with en := true, cmd := 9, miso := true }, tick := 0, tx := 5, rx := 6 }

theorem witness_UnitsDependOnlyOnThemselves :
    (on.cfg = otherUnits.cfg ∧ on.inp.rst = otherUnits.inp.rst ∧
      (∃ t, step on = .next t) ∧ (∃ t, step otherUnits = .next t) ∧
      on.tickCnt .standalone = otherUnits.tickCnt .standalone ∧ on.ctl = otherUnits.ctl ∧
      on.tx = otherUnits.tx ∧ on.rx = otherUnits.rx ∧ on.sclkQ = otherUnits.sclkQ ∧
      on.inp.en = otherUnits.inp.en ∧ on.inp.cmd = otherUnits.inp.cmd ∧
      on.inp.miso = otherUnits.inp.miso) ∧
    (on.cfg = otherSpi.cfg ∧ on.inp.rst = otherSpi.inp.rst ∧ (∃ t, step otherSpi = .next t) ∧
      on.bcd = otherSpi.bcd ∧ on.inp.enable = otherSpi.inp.enable ∧
      on.inp.din = otherSpi.inp.din ∧ on.dispTick = otherSpi.dispTick ∧ on.idx = otherSpi.idx ∧
      on.sync = otherSpi.sync ∧ on.filt = otherSpi.filt ∧ on.inp.aIn = otherSpi.inp.aIn) :=
  ⟨⟨rfl, rfl, ⟨_, rfl⟩, ⟨_, rfl⟩, rfl, rfl, rfl, rfl, rfl, rfl, rfl, rfl⟩,
    rfl, rfl, ⟨_, rfl⟩, rfl, rfl, rfl, rfl, rfl, rfl, rfl, rfl⟩

theorem witness_ArrangedOperationIsPerformed : decodeTableWord 8 0b10 = some .spiWait := rfl

theorem witness_ResetWritesEveryRegister :
    on.cfg.wellFormed = true ∧ (on.drive { low with rst := true }).inp.rst = true := by decide

/-- The counter at the top of its range, and at 1. -/
theorem witness_TickStrobeAndCount :
    (on.tickCnt .standalone = 2 ∧ max (on.cfg.tickParams .standalone).n 1 - 1 = 2) ∧
      on.tickCnt .display = 1 ∧ max (on.cfg.tickParams .display).n 1 - 1 = 1 := by decide

theorem witness_SpiIdleAndStart : on.ctl.state = .idle := rfl

/-- The divider and the edge counter at the tops of their ranges. -/
theorem witness_SpiWaitAndToggles :
    on.ctl.div ≠ 0 ∧ on.ctl.div = on.cfg.spiDiv ∧ 1 ≤ on.ctl.edges ∧
      on.ctl.edges = 2 * on.cfg.spiW := by decide

theorem witness_SpiTransmitRegister :
    (on.drive { low with cmd := 15 }).inp.cmd < 2 ^ on.cfg.spiW := by decide

theorem witness_SpiReceiveRegisterAndClockDelay : 1 ≤ on.cfg.spiW := by decide

theorem witness_BcdStartAndIdle :
    (on.drive { low with din := 1023 }).inp.din < 2 ^ on.cfg.bcdW := by decide

theorem witness_BcdShiftsTheJointRegister :
    1 ≤ on.cfg.bcdW ∧
      1 ≤ ({ on with bcd := { on.bcd with cnt := 10 } } : State).bcd.cnt ∧
      ({ on with bcd := { on.bcd with cnt := 10 } } : State).bcd.cnt ≤ on.cfg.bcdW := by decide

theorem witness_SynchronizerAndFilter : on.filt.cnt < on.cfg.debN - 1 := by decide

theorem witness_DisplayPinsShowTheSelectedDigit :
    ({ on with idx := 3, inp := { low with digits := 0xF000 } } : State).cfg.wellFormed = true := by
  decide

theorem witness_OnlySegmentsFollowAnInput :
    Inputs.digits { low with rst := true, en := true, aIn := true } = on.inp.digits := rfl

/-- A flip up, a flip down, and a reset that changes `stable`. -/
theorem witness_PulsesMarkExactlyTheFlips :
    (∃ t, step { on with sync := { s1 := true, s2 := true }, filt := { on.filt with cnt := 2 } } =
      .next t) ∧
    (∃ t, step { on with filt := { stable := true, cnt := 2, up := false, down := false } } =
      .next t) ∧
    ∃ t, step { on with inp := { low with rst := true },
                        filt := { on.filt with stable := true } } = .next t :=
  ⟨⟨_, rfl⟩, ⟨_, rfl⟩, _, rfl⟩

theorem witness_QuiescentUnitsBeginNothing :
    on.inp.rst = false ∧ (∃ t, step on = .next t) ∧ on.spiQuiescent = true ∧
      on.ctl.sclk = on.sclkQ ∧ on.bcdQuiescent = true ∧ on.debQuiescent = true :=
  ⟨rfl, ⟨_, rfl⟩, rfl, rfl, rfl, rfl⟩

theorem witness_ResetMeetsTheInvariant : Config.reference.wellFormed = true := by decide

theorem witness_EveryStepKeepsTheInvariant : Inv on ∧ ∃ t, step on = .next t :=
  ⟨⟨by decide, by decide, by decide, by decide, by decide, by decide⟩, _, rfl⟩

theorem witness_SaturationIsNeverExercised :
    Inv { on with bcd := { on.bcd with active := true, cnt := 4, acc := 0x0095 } } ∧
      State.operation { on with bcd := { on.bcd with active := true, cnt := 4, acc := 0x0095 } }
        .bcd = .ok .bcdAdd3 :=
  ⟨⟨by decide, by decide, by decide, by decide, by decide, by decide⟩, rfl⟩

/-- With `n = 7` the last window of `P = 3` cycles is the one from cycle 5. -/
theorem witness_StrobePeriodLaw :
    (under cfg (fun _ => low)).cfg.wellFormed = true ∧
      (under cfg (fun _ => low)).tickCnt .standalone =
        ((under cfg (fun _ => low)).cfg.tickParams .standalone).init ∧
      NoReset (under cfg (fun _ => low)) 7 ∧
      5 + max ((under cfg (fun _ => low)).cfg.tickParams .standalone).n 1 = 7 + 1 ∧
      (on.drive { low with rst := true }).inp.rst = true := by
  unfold NoReset
  decide

theorem witness_ZeroPeriodStrobesEveryCycle :
    (∀ n ∈ [0, 1], (State.resetOf { cfg with tick := .ofPeriod n }).cfg.wellFormed = true ∧
      ((State.resetOf { cfg with tick := .ofPeriod n }).cfg.tickParams .standalone).n = n ∧
      (State.resetOf { cfg with tick := .ofPeriod n }).tickCnt .standalone = 0) := by decide

/-- A transfer of the command word 2 with `SPI_W = 2` and `SPI_DIV = 0`, so that it is busy in cycles
1 to 4. -/
def spiRun (e : Edge) : State :=
  under { cfg with spiW := 2, spiDiv := 0, captureEdge := e }
    (fun t => { low with en := t == 0, cmd := 2, miso := t == 2 })

theorem witness_SpiTransferTimeline :
    ∀ e ∈ [Edge.rise, Edge.fall], (spiRun e).cfg.wellFormed = true ∧ (spiRun e).ctl.state = .idle ∧
      (spiRun e).ctl.sclk = false ∧ (spiRun e).inp.en = true ∧
      NoReset (spiRun e) (2 * (spiRun e).cfg.spiW * (spiRun e).cfg.spiHalf + 1) := by
  unfold NoReset
  decide

/-- Cycles 0, 4, 5 and 9 are the boundaries: accepting, the last busy one, `done`, the last. -/
theorem witness_SpiBusyForExactlyTwoWidthTimesHalfPeriod :
    (spiRun .rise).cfg.wellFormed = true ∧ (spiRun .rise).ctl.state = .idle ∧
      (spiRun .rise).inp.en = true ∧ NoReset (spiRun .rise) 9 ∧
      2 * (spiRun .rise).cfg.spiW * (spiRun .rise).cfg.spiHalf = 4 ∧
      ∀ j, j < 9 → 5 ≤ j → ((spiRun .rise).inputsAt j).en = false := by
  unfold NoReset
  decide

/-- The bits of the command word on `mosi`: `k` at 1 and at `SPI_W`, each edge. -/
theorem witness_SpiSendsTheCommandMsbFirst :
    (∀ e ∈ [Edge.rise, Edge.fall], (spiRun e).cfg.wellFormed = true ∧
      (spiRun e).ctl.state = .idle ∧ (spiRun e).ctl.sclk = false ∧ (spiRun e).inp.en = true ∧
      NoReset (spiRun e) 5 ∧ (spiRun e).cfg.captureEdge = e ∧ (spiRun e).cfg.spiW = 2) ∧
    (After (spiRun .rise) 1 (fun t => t.outputs.mosi = true) ∧
      After (spiRun .rise) 4 (fun t => t.outputs.mosi = false)) := by
  refine ⟨?_, ⟨_, rfl, rfl⟩, _, rfl, rfl⟩
  unfold NoReset
  decide

/-- With `SPI_W = 2` and H = 1 the captures are in cycles 2 and 4 (RISE) or 3 and 5 (FALL). A next
request comes in cycle 5 at the earliest. -/
theorem witness_SpiResponseIsTheSampledBits :
    ∀ e ∈ [Edge.rise, Edge.fall], (spiRun e).cfg.wellFormed = true ∧ (spiRun e).ctl.state = .idle ∧
      (spiRun e).ctl.sclk = false ∧ (spiRun e).inp.en = true ∧
      2 * (spiRun e).cfg.spiW * (spiRun e).cfg.spiHalf + 1 = 5 ∧
      NoReset (spiRun e) (6 + captureCycle (spiRun e).cfg 1) ∧
      (∀ j, j < 6 → 5 ≤ j → ((spiRun e).inputsAt j).en = false) ∧
      captureCycle (spiRun e).cfg 2 + 1 ≤ 6 + captureCycle (spiRun e).cfg 1 ∧
      captureCycle (spiRun e).cfg 1 + 1 ≤ captureCycle (spiRun e).cfg 2 := by
  unfold NoReset
  decide

/-- Two cores that differ in their former response and in their other inputs. -/
theorem witness_SameCommandAndMisoGiveTheSameResponse :
    ∀ e ∈ [Edge.rise, Edge.fall],
      (spiRun e).cfg = ({ spiRun e with rx := 3, tick := 0 } : State).cfg ∧
      (spiRun e).cfg.wellFormed = true ∧ (spiRun e).ctl.state = .idle ∧
      (spiRun e).ctl.sclk = false ∧ (spiRun e).inp.en = true ∧
      NoReset (spiRun e) (captureCycle (spiRun e).cfg (spiRun e).cfg.spiW + 1) ∧
      NoReset { spiRun e with rx := 3, tick := 0 }
        (captureCycle (spiRun e).cfg (spiRun e).cfg.spiW + 1) ∧
      ∀ j, j < 3 →
        (({ spiRun e with rx := 3, tick := 0 } : State).inputsAt (captureCycle (spiRun e).cfg j)).miso =
          ((spiRun e).inputsAt (captureCycle (spiRun e).cfg j)).miso := by
  unfold NoReset
  decide

/-- With `SPI_W = 1` and H = 1 the accepting cycles are 0, 3 and 6. -/
theorem witness_HeldRequestGivesBackToBackTransfers :
    (under { cfg with spiW := 1, spiDiv := 0 } (fun _ => { low with en := true })).cfg.wellFormed =
        true ∧
      (under { cfg with spiW := 1, spiDiv := 0 } (fun _ => { low with en := true })).ctl.state =
        .idle ∧
      NoReset (under { cfg with spiW := 1, spiDiv := 0 } (fun _ => { low with en := true })) 6 ∧
      ∀ j, j ≤ 6 → ((under { cfg with spiW := 1, spiDiv := 0 }
        (fun _ => { low with en := true })).inputsAt j).en = true := by
  unfold NoReset
  decide

/-- A transfer in progress, with and without a request. -/
def busy : State := { on with ctl := { on.ctl with state := .transfer } }

theorem witness_RequestsWhileBusyLeaveNoTrace :
    busy.ctl.state = .transfer ∧ Inputs.rst { low with en := true, cmd := 9 } = busy.inp.rst ∧
      Inputs.miso { low with en := true, cmd := 9 } = busy.inp.miso ∧
      (∃ t, step busy = .next t) ∧ ∃ t, step (busy.drive { low with en := true, cmd := 9 }) = .next t :=
  ⟨rfl, rfl, rfl, ⟨_, rfl⟩, _, rfl⟩

/-- A conversion of `v` at `BCD_W = w` that nothing disturbs; 1023 at 10 is V-BCD-1. -/
def bcdRun (w v : Nat) : State :=
  under { cfg with bcdW := w } (fun t => { low with enable := t == 0, din := v })

theorem witness_BcdConversionGivesTheDecimalDigits :
    ∀ p ∈ [(10, 1023), (1, 1)], (bcdRun p.1 p.2).cfg.wellFormed = true ∧
      (bcdRun p.1 p.2).inp.enable = true ∧
      (bcdRun p.1 p.2).inp.din < 2 ^ (bcdRun p.1 p.2).cfg.bcdW ∧
      NoReset (bcdRun p.1 p.2) (2 * (bcdRun p.1 p.2).cfg.bcdW) ∧
      ∀ j, j < 2 * (bcdRun p.1 p.2).cfg.bcdW → 1 ≤ j →
        ((bcdRun p.1 p.2).inputsAt j).enable = false := by
  unfold NoReset
  decide

/-- E1: 1023 at `BCD_W = 10` has K = 6 and is busy in cycles 1 to 16 and not in 17. -/
theorem witness_BcdLatencyIsWidthPlusCorrections :
    (bcdRun 10 1023).cfg.wellFormed = true ∧ (bcdRun 10 1023).inp.enable = true ∧
      (bcdRun 10 1023).inp.din < 2 ^ (bcdRun 10 1023).cfg.bcdW ∧ NoReset (bcdRun 10 1023) 17 ∧
      (∀ j, j < 17 → 1 ≤ j → ((bcdRun 10 1023).inputsAt j).enable = false) ∧
      corrections 10 1023 = 6 := by
  unfold NoReset
  decide

theorem witness_RetriggerForgetsTheOldConversion :
    (bcdRun 3 7).cfg.wellFormed = true ∧ (bcdRun 3 7).inp.enable = true ∧
      Bcd.out { work := 5, acc := 0x0009, cnt := 2, active := true, fix := true, out := 0 } =
        (bcdRun 3 7).bcd.out := by decide

/-- V-BCD-4: `enable` held high. -/
theorem witness_HeldEnableNeverCompletes :
    (under cfg (fun _ => { low with enable := true, din := 9 })).cfg.wellFormed = true ∧
      NoReset (under cfg (fun _ => { low with enable := true, din := 9 })) 6 ∧
      ∀ j, j < 6 →
        ((under cfg (fun _ => { low with enable := true, din := 9 })).inputsAt j).enable = true := by
  unfold NoReset
  decide

/-- V-DS-1: `DISP_TICK_N = 2`, `DISP_TICK_INIT = 1`: with `n = 7` the four slots from `m = 0` fit
exactly, and cycles 2 and 3 are the first slot after the initial one. -/
theorem witness_ScanShowsEachDigitInTurn :
    (under cfg (fun _ => low)).cfg.wellFormed = true ∧ (under cfg (fun _ => low)).idx = 0 ∧
      (under cfg (fun _ => low)).dispTick = (under cfg (fun _ => low)).cfg.dispTick.init ∧
      NoReset (under cfg (fun _ => low)) 7 ∧
      (under cfg (fun _ => low)).cfg.dispTick.init +
        3 * max (under cfg (fun _ => low)).cfg.dispTick.n 1 = 7 := by
  unfold NoReset
  decide

/-- A settled synchronizer under an input that is high in the first `len` cycles. -/
def debRun (len : Nat) : State := under cfg (fun t => { low with aIn := decide (t < len) })

theorem witness_SustainedChangeGivesExactlyOnePulse :
    (debRun 9).cfg.wellFormed = true ∧ (debRun 9).sync.s1 = (debRun 9).filt.stable ∧
      (debRun 9).sync.s2 = (debRun 9).filt.stable ∧ NoReset (debRun 9) 9 ∧
      ∀ j, j < 9 → ((debRun 9).inputsAt j).aIn = !(debRun 9).filt.stable := by
  unfold NoReset
  decide

/-- The hold is exactly `DEB_N = 3` cycles. -/
theorem witness_FlipComesDebounceLatencyAfterTheChange :
    (debRun 3).cfg.wellFormed = true ∧ (debRun 3).sync.s1 = (debRun 3).filt.stable ∧
      (debRun 3).sync.s2 = (debRun 3).filt.stable ∧ NoReset (debRun 3) ((debRun 3).cfg.debN + 3) ∧
      ∀ j, j < (debRun 3).cfg.debN → ((debRun 3).inputsAt j).aIn = !(debRun 3).filt.stable := by
  unfold NoReset
  decide

/-- V-DB-3: the longest excursion that is rejected, `DEB_N - 1` cycles. -/
theorem witness_ShortExcursionIsRejected :
    (debRun 2).cfg.wellFormed = true ∧ (debRun 2).sync.s1 = (debRun 2).filt.stable ∧
      (debRun 2).sync.s2 = (debRun 2).filt.stable ∧ NoReset (debRun 2) 9 ∧
      2 < (debRun 2).cfg.debN ∧
      ∀ j, j < 9 → ((debRun 2).inputsAt j).aIn =
        if j < 2 then !(debRun 2).filt.stable else (debRun 2).filt.stable := by
  unfold NoReset
  decide

/-- `DEB_N = 1` under an input that is high in cycle 0 only: V-DB-4, one cycle earlier. -/
def debOneRun : State := under { cfg with debN := 1 } (fun t => { low with aIn := t == 0 })

/-- The shortest excursion that flips; V-DB-4's flips are in cycles 3 and 4 here. -/
theorem witness_LongExcursionFlipsThereAndBack :
    debOneRun.cfg.wellFormed = true ∧ debOneRun.sync.s1 = debOneRun.filt.stable ∧
      debOneRun.sync.s2 = debOneRun.filt.stable ∧ NoReset debOneRun 5 ∧
      debOneRun.cfg.debN ≤ 1 ∧
      ∀ j, j < 5 → (debOneRun.inputsAt j).aIn =
        if j < 1 then !debOneRun.filt.stable else debOneRun.filt.stable := by
  unfold NoReset
  decide

end Sys2Proof.Tests
end

/-! What one cycle writes (20_memory.md R70, 30_encoding.md R81), the flips and pulses of the
EdgeSynchronizer's filter (10_state.md R50), and the reset state under the invariant (R53, R261). -/

namespace Sys2Proof.Machine

/-! ### One cycle as one record of writes -/

/-- `s` after the operation that sub-unit `u` alone performs in this cycle (R80). -/
def State.performed (s : State) (u : SubUnit) : State :=
  match s.operation u with
  | .ok i =>
    match exec i s with
    | .next t => t
    | _ => s
  | .error _ => s

theorem State.performed_eq {s t : State} {u : SubUnit} {i : Instr} (hi : s.operation u = .ok i)
    (ht : exec i s = .next t) : s.performed u = t := by
  simp only [State.performed, hi, ht]

/-- A sub-unit's commit takes over what its own operation left, read from `pre` alone (R70). -/
theorem commitUnit_next_adopt {pre acc acc' : State} {u : SubUnit}
    (h : commitUnit pre acc u = .next acc') : acc' = acc.adopt u (pre.performed u) := by
  obtain ⟨i, t, hi, ht, rfl⟩ := commitUnit_next h
  rw [State.performed_eq hi ht]

theorem commitUnits_next_foldl {pre acc r : State} {us : List SubUnit}
    (h : commitUnits pre us acc = .next r) :
    r = us.foldl (fun a u => a.adopt u (pre.performed u)) acc := by
  induction us generalizing acc with
  | nil => cases h; rfl
  | cons u us ih =>
    obtain ⟨acc', hu, hus⟩ := commitUnits_cons_next h
    rw [ih hus, commitUnit_next_adopt hu, List.foldl_cons]

/-- `s` with each register as `f` gives it for the one working sub-unit that writes it (R81). -/
def State.adoptAll (s : State) (f : SubUnit → State) : State :=
  { s with
    tick := (f (.tg .standalone)).tick
    dispTick := (f (.tg .display)).dispTick
    ctl := (f .spiCtl).ctl
    tx := (f .spiTx).tx
    rx := (f .spiRx).rx
    sclkQ := (f .spiDly).sclkQ
    bcd := (f .bcd).bcd
    idx := (f .ds).idx
    sync := (f .dbSync).sync
    filt := (f .dbFilt).filt }

theorem foldl_adopt_working (s : State) (f : SubUnit → State) :
    workingSubUnits.foldl (fun a u => a.adopt u (f u)) s = s.adoptAll f := by
  simp only [workingSubUnits, List.foldl_cons, List.foldl_nil, State.adopt, State.adoptAll,
    State.setTick, State.setCtl, State.setTx, State.setRx, State.setSclkQ, State.setBcd,
    State.setIdx, State.setSync, State.setFilt, State.tickCnt]

/-- A commit without RESET: each sub-unit's registers as its own operation leaves them, everything
else unchanged (R70, R72). -/
def State.committed (s : State) : State := s.adoptAll s.performed

theorem commitUnits_working_next {s t : State} (h : commitUnits s workingSubUnits s = .next t) :
    t = s.committed :=
  (commitUnits_next_foldl h).trans (foldl_adopt_working s s.performed)

/-- A commit is RESET's under `rst = 1`, and otherwise the working sub-units' (R234, R260). -/
theorem commitCycle_next {s t : State} (h : commitCycle s = .next t) :
    (s.inp.rst = true ∧ t = s.resetRegisters) ∨ (s.inp.rst = false ∧ t = s.committed) := by
  unfold commitCycle at h
  rw [operation_block] at h
  cases hr : s.inp.rst with
  | true =>
    rw [hr] at h
    cases h
    exact .inl ⟨rfl, rfl⟩
  | false =>
    rw [hr] at h
    exact .inr ⟨rfl, commitUnits_working_next h⟩

/-- Everything a step can do: of a legal machine only, a commit and then the next input levels. -/
theorem step_next {s t : State} (h : step s = .next t) :
    s.cfg.wellFormed = true ∧
      ((s.inp.rst = true ∧ t = s.resetRegisters.advance) ∨
        (s.inp.rst = false ∧ t = s.committed.advance)) := by
  obtain ⟨hw, r, hc, rfl⟩ := runCycle_next h
  obtain ⟨hr, rfl⟩ | ⟨hr, rfl⟩ := commitCycle_next hc
  · exact ⟨hw, .inl ⟨hr, rfl⟩⟩
  · exact ⟨hw, .inr ⟨hr, rfl⟩⟩

/-! ### The filter's registers -/

/-- What the operation that DB_FILT's vector selects leaves in its registers (R210, R212 to R215). -/
theorem performed_dbFilt (s : State) :
    (s.performed .dbFilt).filt = nextFilt s.cfg s.sync.s2 s.filt := by
  have hop := operation_dbFilt s
  unfold nextFilt
  by_cases hm : s.sync.s2 = s.filt.stable
  · rw [if_pos hm] at hop ⊢
    rw [State.performed_eq hop rfl, State.setFilt_filt]
  rw [if_neg hm] at hop ⊢
  by_cases hf : s.filt.cnt = s.cfg.debFull
  · rw [if_pos hf] at hop
    rw [if_pos (show s.filt.cnt = s.cfg.debN - 1 from hf)]
    cases h2 : s.sync.s2 with
    | true =>
      rw [h2, if_pos rfl] at hop
      rw [State.performed_eq hop rfl, State.setFilt_filt, Bool.not_true]
    | false =>
      rw [h2, if_neg Bool.false_ne_true] at hop
      rw [State.performed_eq hop rfl, State.setFilt_filt, Bool.not_false]
  · rw [if_neg hf] at hop
    rw [if_neg (show ¬s.filt.cnt = s.cfg.debN - 1 from hf), State.performed_eq hop rfl,
      State.setFilt_filt]

theorem committed_filt (s : State) : s.committed.filt = nextFilt s.cfg s.sync.s2 s.filt :=
  performed_dbFilt s

/-- `up` goes with a rise of `stable`: only the flip branch changes `stable`, and only it sets a
pulse (R214). -/
theorem nextFilt_up_iff (c : Config) (s2 : Bool) (r : DbFilt) :
    (nextFilt c s2 r).up = true ↔ r.stable = false ∧ (nextFilt c s2 r).stable = true := by
  unfold nextFilt
  split
  next => simp
  next hne =>
    split
    next => cases s2 <;> simp_all
    next => simp

/-- `down` goes with a fall of `stable` (R215). -/
theorem nextFilt_down_iff (c : Config) (s2 : Bool) (r : DbFilt) :
    (nextFilt c s2 r).down = true ↔ r.stable = true ∧ (nextFilt c s2 r).stable = false := by
  unfold nextFilt
  split
  next => simp
  next hne =>
    split
    next => cases s2 <;> simp_all
    next => simp

theorem step_up_iff {s t : State} (h : step s = .next t) :
    t.filt.up = true ↔ s.inp.rst = false ∧ s.filt.stable = false ∧ t.filt.stable = true := by
  obtain ⟨-, ⟨hr, rfl⟩ | ⟨hr, rfl⟩⟩ := step_next h
  · simp [hr]
  · simp only [State.advance_filt, committed_filt, nextFilt_up_iff, hr, true_and]

theorem step_down_iff {s t : State} (h : step s = .next t) :
    t.filt.down = true ↔ s.inp.rst = false ∧ s.filt.stable = true ∧ t.filt.stable = false := by
  obtain ⟨-, ⟨hr, rfl⟩ | ⟨hr, rfl⟩⟩ := step_next h
  · simp [hr]
  · simp only [State.advance_filt, committed_filt, nextFilt_down_iff, hr, true_and]

/-- Settles O28: both pulses are read off the filter's registers, and one step cannot both raise and
lower `stable`. -/
theorem pulsesMarkExactlyTheFlips : Obligations.PulsesMarkExactlyTheFlips := by
  intro s t h
  refine ⟨step_up_iff h, step_down_iff h, fun ⟨hup, hdown⟩ => ?_⟩
  obtain ⟨-, hlow, -⟩ := (step_up_iff h).1 hup
  obtain ⟨-, hhigh, -⟩ := (step_down_iff h).1 hdown
  exact Bool.false_ne_true (hlow.symm.trans hhigh)

/-! ### The reset state -/

/-- R262, check by check. -/
theorem wellFormed_iff (c : Config) :
    c.wellFormed = true ↔
      1 ≤ c.spiW ∧ 1 ≤ c.bcdW ∧ 1 ≤ c.debN ∧ c.tick.init ≤ max c.tick.n 1 - 1 ∧
        c.dispTick.init ≤ max c.dispTick.n 1 - 1 ∧ c.segTable.length = 16 := by
  simp only [Config.wellFormed, Config.spiWidthLegal, Config.bcdWidthLegal, Config.debounceLegal,
    TickParams.initInRange, Config.segTableLegal, Bool.and_eq_true, decide_eq_true_eq, and_assoc]

theorem spiInv_resetOf (c : Config) : SpiInv (State.resetOf c) := by
  refine ⟨le_rfl, Nat.two_pow_pos _, Nat.two_pow_pos _, fun htransfer => ?_, fun _ => ?_⟩
  · cases htransfer
  · exact ⟨rfl, .inl ⟨rfl, rfl⟩⟩

theorem bcdInv_resetOf (c : Config) : BcdInv (State.resetOf c) := by
  refine ⟨Nat.two_pow_pos _, Nat.zero_le _, fun hactive => ?_, fun _ => rfl, fun hactive => ?_⟩
  · cases hactive
  · cases hactive

theorem debInv_resetOf (c : Config) : DebInv (State.resetOf c) := by
  refine ⟨Nat.zero_le _, fun hup => ?_, fun hdown => ?_⟩
  · cases hup
  · cases hdown

/-- The counters start at the initial values that R262 checks; every other register starts at a value
in range whatever the parameters (R53). -/
theorem inv_resetOf {c : Config} (hw : c.wellFormed = true) : Inv (State.resetOf c) := by
  obtain ⟨-, -, -, htick, hdisp, -⟩ := (wellFormed_iff c).1 hw
  exact ⟨hw, htick, hdisp, spiInv_resetOf c, bcdInv_resetOf c, debInv_resetOf c⟩

theorem reference_wellFormed : Config.reference.wellFormed = true := by decide

/-- Settles O30: the reference reset state is that of one legal configuration. -/
theorem resetMeetsTheInvariant : Obligations.ResetMeetsTheInvariant :=
  ⟨fun _ => inv_resetOf, inv_resetOf reference_wellFormed⟩

end Sys2Proof.Machine

/-! The registers that each operation writes (20_memory.md R72, 30_encoding.md R81), the order of
the commits within a cycle (R70, 60_exceptions.md R242), and what of the outputs an input reaches
within a cycle (R71). -/

namespace Sys2Proof.Machine

/-! ### Taking over one sub-unit's registers -/

section AdoptFrame

variable (s t : State) (u : SubUnit)

@[simp] theorem State.adopt_cfg : (s.adopt u t).cfg = s.cfg := by
  cases u <;> simp [State.adopt]

@[simp] theorem State.adopt_inp : (s.adopt u t).inp = s.inp := by
  cases u <;> simp [State.adopt]

@[simp] theorem State.adopt_script : (s.adopt u t).script = s.script := by
  cases u <;> simp [State.adopt]

@[simp] theorem State.adopt_drawn : (s.adopt u t).drawn = s.drawn := by
  cases u <;> simp [State.adopt]

end AdoptFrame

/-- Taking over one working sub-unit's registers replaces the one source from which that sub-unit's
registers come, and no other (R72). -/
theorem State.adoptAll_adopt (s t : State) (f : SubUnit → State) {u : SubUnit} (hb : u ≠ .block) :
    (s.adoptAll f).adopt u t = s.adoptAll (Function.update f u t) := by
  cases u with
  | block => exact absurd rfl hb
  | tg p => cases p <;> rfl
  | _ => rfl

/-- One working sub-unit's registers come from `t`, and every other register from `s`. -/
theorem State.adopt_eq_adoptAll (s t : State) {u : SubUnit} (hb : u ≠ .block) :
    s.adopt u t = s.adoptAll (Function.update (fun _ => s) u t) :=
  State.adoptAll_adopt s t (fun _ => s) hb

/-! ### The frame of every operation -/

theorem State.adopt_setTick (s : State) (p : TickInst) (v : Nat) :
    s.adopt (.tg p) (s.setTick p v) = s.setTick p v := by
  simp only [State.adopt, State.setTick_tickCnt]

/-- An operation leaves exactly what its sub-unit's registers, taken over from its result, give: it
is a write of that one group, and RESET a write of all of them (R72, R81, R260). -/
theorem exec_next_adopt {i : Instr} {s t : State} (h : exec i s = .next t) :
    s.adopt i.subUnit t = t := by
  cases i with
  | tgStrobe p => cases h; exact State.adopt_setTick s p _
  | tgCount p => cases h; exact State.adopt_setTick s p _
  | _ => cases h; rfl

/-- Settles O11: the result is a take-over of one sub-unit's registers, and the frame of that
take-over is the frame of the operation. -/
theorem operationsWriteOnlyTheirOwnRegisters :
    Obligations.OperationsWriteOnlyTheirOwnRegisters := by
  intro i s t h
  have ht : s.adopt i.subUnit t = t := exec_next_adopt h
  refine ⟨ht, ?_⟩
  rw [← ht]
  refine ⟨State.adopt_cfg s t _, State.adopt_inp s t _, State.adopt_script s t _,
    State.adopt_drawn s t _, fun hb => ?_⟩
  rw [State.adopt_eq_adoptAll s t hb]
  have hkept {v : SubUnit} (hv : i.subUnit ≠ v) :
      Function.update (fun _ => s) i.subUnit t v = s := Function.update_of_ne hv.symm t (fun _ => s)
  dsimp only [State.adoptAll]
  exact ⟨fun hv => congrArg State.tick (hkept hv), fun hv => congrArg State.dispTick (hkept hv),
    fun hv => congrArg State.ctl (hkept hv), fun hv => congrArg State.tx (hkept hv),
    fun hv => congrArg State.rx (hkept hv), fun hv => congrArg State.sclkQ (hkept hv),
    fun hv => congrArg State.bcd (hkept hv), fun hv => congrArg State.idx (hkept hv),
    fun hv => congrArg State.sync (hkept hv), fun hv => congrArg State.filt (hkept hv)⟩

/-! ### The order of the commits -/

/-- No operation faults or is refused (R230, R232). -/
theorem exec_total (i : Instr) (s : State) : ∃ t, exec i s = .next t := by
  cases i <;> exact ⟨_, rfl⟩

/-- Every vector of a working sub-unit selects an operation (R83). -/
theorem operation_total (s : State) {u : SubUnit} (hb : u ≠ .block) :
    ∃ i, s.operation u = .ok i := by
  cases u with
  | block => exact absurd rfl hb
  | tg p => exact ⟨_, operation_tg s p⟩
  | spiCtl => exact ⟨_, operation_spiCtl s⟩
  | spiTx => exact ⟨_, operation_spiTx s⟩
  | spiRx => exact ⟨_, operation_spiRx s⟩
  | spiDly => exact ⟨_, operation_spiDly s⟩
  | bcd => exact ⟨_, operation_bcd s⟩
  | ds => exact ⟨_, operation_ds s⟩
  | dbSync => exact ⟨_, operation_dbSync s⟩
  | dbFilt => exact ⟨_, operation_dbFilt s⟩

theorem commitUnit_eq_adopt (pre acc : State) {u : SubUnit} (hb : u ≠ .block) :
    commitUnit pre acc u = .next (acc.adopt u (pre.performed u)) := by
  obtain ⟨i, hi⟩ := operation_total pre hb
  obtain ⟨t, ht⟩ := exec_total i pre
  rw [commitUnit_of hi ht, State.performed_eq hi ht]

/-- After the commits of a list of working sub-units each of them has the registers that its own
operation left, and the others keep theirs: the list counts only by its members. -/
theorem commitUnits_eq_adoptAll (pre s : State) (f : SubUnit → State) {us : List SubUnit}
    (hb : .block ∉ us) :
    commitUnits pre us (s.adoptAll f) =
      .next (s.adoptAll fun u => if u ∈ us then pre.performed u else f u) := by
  induction us generalizing f with
  | nil => simp
  | cons v us ih =>
    have hv : v ≠ .block := (List.ne_of_not_mem_cons hb).symm
    have hus : .block ∉ us := List.not_mem_of_not_mem_cons hb
    have hsource : (fun u => if u ∈ us then pre.performed u
          else Function.update f v (pre.performed v) u) =
        fun u => if u ∈ v :: us then pre.performed u else f u := by
      funext u
      by_cases huv : u = v
      · subst huv; simp
      · simp [huv]
    rw [commitUnits_cons (commitUnit_eq_adopt pre _ hv),
      State.adoptAll_adopt _ _ _ hv, ih _ hus, hsource]

/-- Settles O10: the commit depends on which sub-units are in the list, and a permutation has the
same ones. -/
theorem unitOrderDoesNotMatter : Obligations.UnitOrderDoesNotMatter := by
  intro s order hperm
  have hworking : .block ∉ workingSubUnits := by decide
  have horder : .block ∉ order := fun h => hworking (hperm.mem_iff.1 h)
  calc commitUnits s order s
      = .next (s.adoptAll fun u => if u ∈ order then s.performed u else s) :=
        commitUnits_eq_adoptAll s s (fun _ => s) horder
    _ = .next (s.adoptAll fun u => if u ∈ workingSubUnits then s.performed u else s) := by
        simp only [hperm.mem_iff]
    _ = commitUnits s workingSubUnits s :=
        (commitUnits_eq_adoptAll s s (fun _ => s) hworking).symm

/-! ### The inputs and the outputs of one cycle -/

/-- Every output but the segment pins is read from registers and parameters alone (R71). -/
theorem outputs_drive (s : State) (i : Inputs) :
    (s.drive i).outputs = { s.outputs with seg := (s.drive i).segPins } := rfl

/-- Of the inputs the segment pins read `digits` alone (R196). -/
theorem segPins_drive (s : State) {i : Inputs} (h : i.digits = s.inp.digits) :
    (s.drive i).segPins = s.segPins := by
  simp only [State.segPins, State.segLit, State.selectedNibble, State.inDigits, State.drive_cfg,
    State.drive_inp, State.drive_idx, h]

/-- Settles O27: only `seg` of the outputs reads an input, and it reads `digits`. -/
theorem onlySegmentsFollowAnInput : Obligations.OnlySegmentsFollowAnInput := by
  intro s i
  refine ⟨?_, fun hdigits => ?_⟩
  · rw [outputs_drive]
  · rw [outputs_drive, segPins_drive s hdigits]
    rfl

end Sys2Proof.Machine

/-! The stimulus: the input words of a cycle (30_encoding.md R84), the command word on the wire (R85,
R86), and what a loaded script puts on the input ports (R92). -/

namespace Sys2Proof.Machine

/-! ### The input words of a cycle -/

theorem inputs_wellFormed_iff (c : Config) (i : Inputs) :
    i.wellFormed c = true ↔ i.cmd < 2 ^ c.spiW ∧ i.din < 2 ^ c.bcdW := by
  simp only [Inputs.wellFormed, Inputs.cmdFits, Inputs.dinFits, Bool.and_eq_true,
    decide_eq_true_eq]

/-- The SpiMaster word is `cmd` with `miso` and then `en` entering below it (R84). -/
theorem encodeInputs_spi (c : Config) (i : Inputs) :
    (encodeInputs c i).spi = Nat.bit i.en (Nat.bit i.miso (cut c.spiW i.cmd)) := by
  simp only [encodeInputs, Nat.bit_val]
  ring

/-- The BcdConverter word is `din` with `enable` entering below it (R84). -/
theorem encodeInputs_bcd (c : Config) (i : Inputs) :
    (encodeInputs c i).bcd = Nat.bit i.enable (cut c.bcdW i.din) := by
  simp only [encodeInputs, Nat.bit_val]
  ring

/-- Unpacking cuts `cmd` and `din` to their ports, and gives every other level back. -/
theorem decodeInputs_encodeInputs (c : Config) (i : Inputs) :
    decodeInputs c (encodeInputs c i) =
      { i with cmd := cut c.spiW i.cmd, din := cut c.bcdW i.din } := by
  have hmiso : (encodeInputs c i).spi.testBit 1 = i.miso := by
    rw [encodeInputs_spi, Nat.testBit_bit_succ, Nat.testBit_bit_zero]
  have hcmd : (encodeInputs c i).spi / 4 = cut c.spiW i.cmd := by
    rw [encodeInputs_spi, show 4 = 2 * 2 from rfl, ← Nat.div_div_eq_div_mul, Nat.bit_div_two,
      Nat.bit_div_two]
  have hdin : (encodeInputs c i).bcd / 2 = cut c.bcdW i.din := by
    rw [encodeInputs_bcd, Nat.bit_div_two]
  have hen : (encodeInputs c i).spi.testBit 0 = i.en := by
    rw [encodeInputs_spi, Nat.testBit_bit_zero]
  have henable : (encodeInputs c i).bcd.testBit 0 = i.enable := by
    rw [encodeInputs_bcd, Nat.testBit_bit_zero]
  have hrst : (encodeInputs c i).block.testBit 0 = i.rst := Nat.testBit_bool_toNat i.rst 0
  have haIn : (encodeInputs c i).db.testBit 0 = i.aIn := Nat.testBit_bool_toNat i.aIn 0
  have hdigits : BitVec.ofNat 16 (encodeInputs c i).ds = i.digits := by
    rw [show (encodeInputs c i).ds = i.digits.toNat from rfl, BitVec.ofNat_toNat,
      BitVec.setWidth_eq]
  simp only [decodeInputs, hrst, hen, hmiso, hcmd, henable, hdin, hdigits, haIn, cut_cut]

/-- Settles O4: the words are built by `Nat.bit`, whose bits, bound and halves Mathlib has; a level
that fits its port is not cut. -/
theorem inputWordsPackAndUnpack : Obligations.InputWordsPackAndUnpack := by
  intro c i hw
  obtain ⟨hcmd, hdin⟩ := (inputs_wellFormed_iff c i).1 hw
  have hspi : (encodeInputs c i).spi = Nat.bit i.en (Nat.bit i.miso i.cmd) := by
    rw [encodeInputs_spi, cut_eq_of_lt hcmd]
  have hbcd : (encodeInputs c i).bcd = Nat.bit i.enable i.din := by
    rw [encodeInputs_bcd, cut_eq_of_lt hdin]
  refine ⟨?_, Nat.testBit_bool_toNat i.rst, fun k => ?_, fun k => ?_, rfl,
    Nat.testBit_bool_toNat i.aIn, ?_, ?_⟩
  · rw [decodeInputs_encodeInputs, cut_eq_of_lt hcmd, cut_eq_of_lt hdin]
  · rw [hspi]
    match k with
    | 0 => exact Nat.testBit_bit_zero _ _
    | 1 => rw [Nat.testBit_bit_succ, Nat.testBit_bit_zero]; rfl
    | k + 2 => rw [Nat.testBit_bit_succ, Nat.testBit_bit_succ]; rfl
  · rw [hbcd]
    match k with
    | 0 => exact Nat.testBit_bit_zero _ _
    | k + 1 => rw [Nat.testBit_bit_succ]; rfl
  · rw [hspi, Nat.bit_lt_two_pow_succ_iff, Nat.bit_lt_two_pow_succ_iff]
    exact hcmd
  · rw [hbcd, Nat.bit_lt_two_pow_succ_iff]
    exact hdin

/-! ### The command word -/

/-- The bits of the command word, field by field from bit 0 up: padding, channel, single-ended and
start, padding (R85). -/
theorem getLsbD_commandWord (chan : BitVec 3) (k : Nat) :
    (commandWord chan).getLsbD k =
      if k < 12 then false else if k < 15 then chan.getLsbD (k - 12) else decide (k < 17) := by
  simp only [commandWord, BitVec.getLsbD_append, BitVec.ofNat_eq_ofNat, BitVec.getLsbD_zero,
    BitVec.getLsbD_one]
  by_cases h12 : k < 12
  · rw [if_pos h12, if_pos h12]
  by_cases h15 : k < 15
  · rw [if_neg h12, if_neg h12, if_pos h15, if_pos (by omega)]
  · rw [if_neg h12, if_neg h12, if_neg h15, if_neg (by omega)]
    grind

/-- A field of the command word whose bits the layout gives. -/
theorem extractLsb'_commandWord_eq {chan : BitVec 3} {start len : Nat} {field : BitVec len}
    (h : ∀ k, k < len → (commandWord chan).getLsbD (start + k) = field.getLsbD k) :
    (commandWord chan).extractLsb' start len = field :=
  BitVec.eq_of_getLsbD_eq fun k hk => by
    rw [BitVec.getLsbD_extractLsb', h k hk, decide_eq_true hk, Bool.true_and]

/-- Settles O5: each field and each bit on the wire is read off the bits of the word. -/
theorem commandWordFieldsAndWireOrder : Obligations.CommandWordFieldsAndWireOrder := by
  intro chan
  refine ⟨?padding, ?channel, ?singleEnded, ?start, ?unused, ?wire⟩
  case padding =>
    refine extractLsb'_commandWord_eq fun k hk => ?_
    rw [getLsbD_commandWord, if_pos (by omega), BitVec.ofNat_eq_ofNat, BitVec.getLsbD_zero]
  case channel =>
    refine extractLsb'_commandWord_eq fun k hk => ?_
    rw [getLsbD_commandWord, if_neg (by omega), if_pos (by omega), Nat.add_sub_cancel_left]
  case singleEnded =>
    refine extractLsb'_commandWord_eq fun k hk => ?_
    obtain rfl : k = 0 := by omega
    rw [getLsbD_commandWord]; rfl
  case start =>
    refine extractLsb'_commandWord_eq fun k hk => ?_
    obtain rfl : k = 0 := by omega
    rw [getLsbD_commandWord]; rfl
  case unused =>
    refine extractLsb'_commandWord_eq fun k hk => ?_
    rw [getLsbD_commandWord, if_neg (by omega), if_neg (by omega), decide_eq_false (by omega),
      BitVec.ofNat_eq_ofNat, BitVec.getLsbD_zero]
  case wire =>
    simp only [wireBits, BitVec.testBit_toNat, getLsbD_commandWord]
    rfl

/-! ### A loaded script -/

/-- While the script lasts, its entries are the input levels of the cycles that follow. -/
theorem inputsAt_succ_of_getElem? {s : State} {k : Nat} {i : Inputs}
    (h : s.script[k]? = some i) : s.inputsAt (k + 1) = i := by
  cases hs : s.script with
  | nil => simp [hs] at h
  | cons j rest =>
    rw [inputsAt_succ, s.advance_of_cons j rest hs]
    rw [hs] at h
    cases k with
    | zero => exact Option.some.inj h
    | succ k => exact inputsAt_succ_of_getElem? h

theorem load_inputsAt (s : State) (lines : List StimulusLine) {n t : Nat} (h : t < n) :
    (s.load lines n).inputsAt t = scriptInputs lines t := by
  cases t with
  | zero => rfl
  | succ t =>
    have hrange : (List.range (n - 1))[t]? = some t := List.getElem?_range (by omega)
    apply inputsAt_succ_of_getElem?
    simp only [State.load, List.getElem?_map, hrange, Option.map_some]

/-- The line written last applies last, in the cycles from its own on (R92; log 24). -/
theorem scriptInputs_concat (lines : List StimulusLine) (l : StimulusLine) (t : Nat) :
    scriptInputs (lines ++ [l]) t =
      if l.cycle ≤ t then l.sets.foldl applyPort (scriptInputs lines t)
      else scriptInputs lines t := by
  unfold scriptInputs
  rw [List.filter_append, List.foldl_append]
  by_cases h : l.cycle ≤ t
  · rw [if_pos h, List.filter_singleton, decide_eq_true h]; rfl
  · rw [if_neg h, List.filter_singleton, decide_eq_false h]; rfl

/-- Settles O6: the entries of the loaded script are the levels of its cycles, and a line written last
is the last one applied. -/
theorem loadedScriptDrivesItsCycles : Obligations.LoadedScriptDrivesItsCycles :=
  ⟨fun s lines _ _ h => load_inputsAt s lines h, fun _ => rfl,
    fun lines c p t => scriptInputs_concat lines { cycle := c, sets := [p] } t⟩

end Sys2Proof.Machine

/-! The decode tables (30_encoding.md R80 to R83): the operation that a vector selects, the vectors that
select an operation, and the tool words (log 1). -/

namespace Sys2Proof

/-! ### Facts read off the tables -/

theorem SubUnit.mem_all (u : SubUnit) : u ∈ SubUnit.all := by
  cases u with
  | tg t => cases t <;> decide
  | _ => decide

/-- The table of a sub-unit holds operations of that sub-unit alone (R81, R82). -/
theorem subUnit_of_mem_rows {u : SubUnit} {r : Row} (h : r ∈ u.rows) : r.op.subUnit = u := by
  have htables : ∀ u ∈ SubUnit.all, ∀ r ∈ u.rows, r.op.subUnit = u := by decide
  exact htables u u.mem_all r h

/-- No operation has two rows (R82). -/
theorem row_eq_of_op_eq {u : SubUnit} {r r' : Row} (h : r ∈ u.rows) (h' : r' ∈ u.rows)
    (hop : r.op = r'.op) : r = r' := by
  have htables : ∀ u ∈ SubUnit.all, ∀ r ∈ u.rows, ∀ r' ∈ u.rows, r.op = r'.op → r = r' := by decide
  exact htables u u.mem_all r h r' h' hop

/-- Two rows of a table differ in a bit that both look at (R83). -/
theorem rows_conflict {u : SubUnit} {r r' : Row} (h : r ∈ u.rows) (h' : r' ∈ u.rows)
    (hne : r ≠ r') : r.pat &&& r'.mask ≠ r'.pat &&& r.mask := by
  have htables : ∀ u ∈ SubUnit.all, ∀ r ∈ u.rows, ∀ r' ∈ u.rows, r ≠ r' →
      r.pat &&& r'.mask ≠ r'.pat &&& r.mask := by decide
  exact htables u u.mem_all r h r' h' hne

/-- A vector within its sub-unit's width matches exactly one row (R83). -/
theorem one_row_applies {u : SubUnit} {v : Vec} (hb : u ≠ .block) (hv : v.toNat < 2 ^ u.width) :
    (u.rows.filter (fun r => r.applies v)).length = 1 := by
  have htables : ∀ u ∈ SubUnit.all, u ≠ .block → ∀ v : Vec, v.toNat < 2 ^ u.width →
      (u.rows.filter (fun r => r.applies v)).length = 1 := by decide
  exact htables u u.mem_all hb v hv

/-- Every operation has its row in the table of its own sub-unit (Laws/PerInstr.lean). -/
theorem rowFits : ∀ i : Instr, Laws.RowFits.Statement i
  | .reset => Laws.RowFits.reset
  | .tgStrobe t => Laws.RowFits.tgStrobe t
  | .tgCount t => Laws.RowFits.tgCount t
  | .spiIdle => Laws.RowFits.spiIdle
  | .spiStart => Laws.RowFits.spiStart
  | .spiWait => Laws.RowFits.spiWait
  | .spiToggle => Laws.RowFits.spiToggle
  | .spiLastToggle => Laws.RowFits.spiLastToggle
  | .spiLoad => Laws.RowFits.spiLoad
  | .spiShiftOut => Laws.RowFits.spiShiftOut
  | .spiTxHold => Laws.RowFits.spiTxHold
  | .spiCapture => Laws.RowFits.spiCapture
  | .spiRxHold => Laws.RowFits.spiRxHold
  | .spiClkDelay => Laws.RowFits.spiClkDelay
  | .bcdStart => Laws.RowFits.bcdStart
  | .bcdIdle => Laws.RowFits.bcdIdle
  | .bcdAdd3 => Laws.RowFits.bcdAdd3
  | .bcdShift => Laws.RowFits.bcdShift
  | .bcdLastShift => Laws.RowFits.bcdLastShift
  | .dsAdvance => Laws.RowFits.dsAdvance
  | .dsHold => Laws.RowFits.dsHold
  | .dbSyncShift => Laws.RowFits.dbSyncShift
  | .dbMatch => Laws.RowFits.dbMatch
  | .dbCount => Laws.RowFits.dbCount
  | .dbFlipUp => Laws.RowFits.dbFlipUp
  | .dbFlipDown => Laws.RowFits.dbFlipDown

/-! ### The decoder -/

theorem Row.applies_iff {r : Row} {v : Vec} : r.applies v = true ↔ v &&& r.mask = r.pat :=
  beq_iff_eq

/-- At most one row of a table applies: two that do agree on every bit that both look at. -/
theorem row_eq_of_applies {u : SubUnit} {r r' : Row} {v : Vec} (h : r ∈ u.rows) (h' : r' ∈ u.rows)
    (hv : r.applies v = true) (hv' : r'.applies v = true) : r = r' := by
  by_contra hne
  refine rows_conflict h h' hne ?_
  rw [← Row.applies_iff.1 hv, ← Row.applies_iff.1 hv', BitVec.and_assoc, BitVec.and_assoc,
    BitVec.and_comm r.mask]

/-- A vector selects the operation of the row that applies to it (R80). -/
theorem decode_eq_ok_iff {u : SubUnit} {v : Vec} {i : Instr} :
    decode u v = .ok i ↔ v.toNat < 2 ^ u.width ∧ ∃ r ∈ u.rows, r.applies v = true ∧ r.op = i := by
  unfold decode
  by_cases hwide : 2 ^ u.width ≤ v.toNat
  · simp [hwide, Nat.not_lt.2 hwide]
  rw [if_neg hwide]
  cases hfind : u.rows.find? (fun r => r.applies v) with
  | none =>
    have hnone := List.find?_eq_none.1 hfind
    simp only [reduceCtorEq, false_iff]
    rintro ⟨-, r, hr, hv, -⟩
    exact hnone r hr hv
  | some r =>
    have hv : r.applies v = true := List.find?_some (p := fun r : Row => r.applies v) hfind
    have hr : r ∈ u.rows := List.mem_of_find?_eq_some hfind
    refine ⟨fun h => ⟨Nat.lt_of_not_le hwide, r, hr, hv, Except.ok.inj h⟩, ?_⟩
    rintro ⟨-, r', hr', hv', rfl⟩
    rw [row_eq_of_applies hr hr' hv hv']

theorem subUnit_of_decode {u : SubUnit} {v : Vec} {i : Instr} (h : decode u v = .ok i) :
    i.subUnit = u := by
  obtain ⟨-, r, hr, -, rfl⟩ := decode_eq_ok_iff.1 h
  exact subUnit_of_mem_rows hr

/-- Settles O1: the tables' rows are counted, and the decoder answers the one that applies. -/
theorem everyVectorSelectsExactlyOneRow : Obligations.EveryVectorSelectsExactlyOneRow := by
  intro u v hb hv
  have hone := one_row_applies hb hv
  obtain ⟨r, hr⟩ := List.length_eq_one_iff.1 hone
  obtain ⟨hmem, happlies⟩ := List.mem_filter.1 (hr ▸ List.mem_singleton_self r)
  exact ⟨hone, r.op, decode_eq_ok_iff.2 ⟨hv, r, hmem, happlies, rfl⟩, subUnit_of_mem_rows hmem⟩

/-- Settles O3: the twelve vectors are looked up in the tables. -/
theorem vectorsWrittenOutDecode : Obligations.VectorsWrittenOutDecode :=
  ⟨rfl, rfl, rfl, rfl, rfl, rfl, rfl, rfl, rfl, rfl, rfl, rfl⟩

/-! ### The encoder -/

/-- The bits that a sub-unit's vector has (R81). -/
def SubUnit.widthMask (u : SubUnit) : Vec := BitVec.ofNat 4 (2 ^ u.width - 1)

/-- A vector is within its sub-unit's width when it has no bit outside the width mask. -/
theorem and_widthMask_eq_iff (u : SubUnit) (v : Vec) :
    v &&& u.widthMask = v ↔ v.toNat < 2 ^ u.width := by
  have hall : ∀ u ∈ SubUnit.all, ∀ v : Vec, v &&& u.widthMask = v ↔ v.toNat < 2 ^ u.width := by
    decide
  exact hall u u.mem_all v

/-- The row's `match` with the ignored bits among `w` taken from `free`. -/
def Row.fill (r : Row) (w free : Vec) : Vec := r.pat ||| (free &&& ~~~r.mask &&& w)

theorem encodeVector_of_row {i : Instr} {r : Row} (h : i.row = some r) (free : Vec) :
    encodeVector i free = some (r.fill i.subUnit.widthMask free) := by
  rw [encodeVector, h]
  rfl

/-- A filled row applies to its own vector: the filling stays outside the mask. -/
theorem Row.fill_applies {r : Row} (hpat : r.pat &&& r.mask = r.pat) (w free : Vec) :
    r.applies (r.fill w free) = true := by
  have hignored : free &&& ~~~r.mask &&& w &&& r.mask = 0 := by
    rw [BitVec.and_assoc, BitVec.and_comm w, ← BitVec.and_assoc, BitVec.and_assoc free,
      BitVec.not_and_self]
    simp only [BitVec.ofNat_eq_ofNat, BitVec.and_zero, BitVec.zero_and]
  rw [Row.applies_iff, Row.fill, BitVec.and_or_distrib_right, hpat, hignored]
  exact BitVec.or_zero

theorem Row.fill_within {r : Row} {w : Vec} (hpat : r.pat &&& w = r.pat) (free : Vec) :
    r.fill w free &&& w = r.fill w free := by
  rw [Row.fill, BitVec.and_or_distrib_right, hpat, BitVec.and_assoc _ w, BitVec.and_self]

/-- A vector to which the row applies is the row filled with that vector's own bits. -/
theorem Row.fill_self {r : Row} {w v : Vec} (hv : r.applies v = true) (hw : v &&& w = v) :
    r.fill w v = v := by
  rw [Row.fill, ← Row.applies_iff.1 hv, BitVec.and_assoc, BitVec.and_comm (~~~r.mask),
    ← BitVec.and_assoc, hw, ← BitVec.and_or_distrib_left, BitVec.or_not_self, BitVec.and_allOnes]

/-! ### Tool words -/

theorem SubUnit.find_tag (u : SubUnit) :
    SubUnit.all.find? (fun u' => u'.tag == u.tag) = some u := by
  have hall : ∀ u ∈ SubUnit.all, SubUnit.all.find? (fun u' => u'.tag == u.tag) = some u := by decide
  exact hall u u.mem_all

theorem SubUnit.tag_bounds (u : SubUnit) : 1 ≤ u.tag ∧ u.tag ≤ 11 := by
  have hall : ∀ u ∈ SubUnit.all, 1 ≤ u.tag ∧ u.tag ≤ 11 := by decide
  exact hall u u.mem_all

/-- A word that names a sub-unit is read as the sub-unit's vector (log 1). -/
theorem decodeWord_tag (u : SubUnit) (v : Vec) : decodeWord (256 * u.tag + v.toNat) = decode u v := by
  have hv : v.toNat < 16 := v.isLt
  obtain ⟨htag, -⟩ := u.tag_bounds
  have hlow : (256 * u.tag + v.toNat) % 256 = v.toNat := by omega
  have hhigh : (256 * u.tag + v.toNat) / 256 = u.tag := by omega
  unfold decodeWord
  dsimp only
  rw [hlow, hhigh, if_neg (by omega), if_neg (by omega), u.find_tag]
  simp only [BitVec.ofNat_toNat, BitVec.setWidth_eq]

theorem encodeWord_of_row {i : Instr} {r : Row} (h : i.row = some r) :
    encodeWord i =
      some (256 * i.subUnit.tag + (r.fill i.subUnit.widthMask 0).toNat) := by
  rw [encodeWord, encodeVector_of_row h]
  rfl

/-- Settles O2: the vectors of a row are the row's fillings, and the tool word holds the one whose
ignored bits are 0. -/
theorem decodeInvertsEncode : Obligations.DecodeInvertsEncode := by
  intro i _
  obtain ⟨r, hrow, hop, hpat, hmask⟩ := rowFits i
  have hmem : r ∈ i.subUnit.rows := List.mem_of_find?_eq_some hrow
  have hwidth : r.pat &&& i.subUnit.widthMask = r.pat := by
    rw [and_widthMask_eq_iff, ← hpat, BitVec.toNat_and]
    exact lt_of_le_of_lt Nat.and_le_right hmask
  have hdecode (free : Vec) : decode i.subUnit (r.fill i.subUnit.widthMask free) = .ok i :=
    decode_eq_ok_iff.2 ⟨(and_widthMask_eq_iff _ _).1 (Row.fill_within hwidth free), r, hmem,
      Row.fill_applies hpat _ free, hop⟩
  refine ⟨fun free => ⟨_, encodeVector_of_row hrow free, hdecode free⟩, fun v hv => ?_, ?_⟩
  · obtain ⟨hlt, r', hmem', happlies, hop'⟩ := decode_eq_ok_iff.1 hv
    obtain rfl : r' = r := row_eq_of_op_eq hmem' hmem (hop'.trans hop.symm)
    rw [encodeVector_of_row hrow, Row.fill_self happlies ((and_widthMask_eq_iff _ _).2 hlt)]
  · refine ⟨_, encodeWord_of_row hrow, ?_, ?_⟩
    · have hv := (r.fill i.subUnit.widthMask 0).isLt
      obtain ⟨-, htag⟩ := i.subUnit.tag_bounds
      omega
    · rw [decodeWord_tag, hdecode]

end Sys2Proof

/-! A step performs the decoded operations (00_scope.md R11, 30_encoding.md R80), and the state that the
model's own entry arranges for an operation (log 2, log 3). -/

namespace Sys2Proof.Machine

/-! ### One cycle, sub-unit by sub-unit -/

/-- The next input levels come from the script and the draws alone, whatever the registers are. -/
theorem State.advance_adoptAll (s : State) (f : SubUnit → State) :
    (s.adoptAll f).advance = s.advance.adoptAll f := by
  cases hscript : s.script with
  | nil => rw [s.advance_of_nil hscript, (s.adoptAll f).advance_of_nil hscript]; rfl
  | cons i rest =>
    rw [s.advance_of_cons i rest hscript, (s.adoptAll f).advance_of_cons i rest hscript]; rfl

/-- After a cycle a working sub-unit's registers are those that its own operation left. -/
theorem State.committed_advance_adopt (s : State) {u : SubUnit} (hb : u ≠ .block) :
    s.committed.advance.adopt u (s.performed u) = s.committed.advance := by
  rw [State.committed, State.advance_adoptAll, State.adoptAll_adopt _ _ _ hb,
    Function.update_eq_self]

theorem commitUnits_working (s : State) : commitUnits s workingSubUnits s = .next s.committed :=
  commitUnits_eq_adoptAll s s (fun _ => s) (by decide)

/-- A cycle of a legal machine under `rst = 1`: RESET, and the next input levels (R234, R260). -/
theorem step_of_rst {s : State} (hw : s.cfg.wellFormed = true) (hr : s.inp.rst = true) :
    step s = .next s.resetRegisters.advance :=
  runCycle_of hw (by rw [commitCycle, operation_block, hr]; rfl)

/-- A cycle of a legal machine under `rst = 0`: every working sub-unit's commit, and the next input
levels (R70, R80). -/
theorem step_of_not_rst {s : State} (hw : s.cfg.wellFormed = true) (hr : s.inp.rst = false) :
    step s = .next s.committed.advance :=
  runCycle_of hw (by rw [commitCycle, operation_block, hr]; exact commitUnits_working s)

/-- Settles O7: under `rst = 0` the step commits what each working sub-unit's operation left. -/
theorem stepRunsTheDecodedOperations : Obligations.StepRunsTheDecodedOperations := by
  intro s hw
  refine ⟨fun hr => ⟨?_, _, rfl, step_of_rst hw hr⟩,
    fun hr => ⟨_, step_of_not_rst hw hr, fun u hb => ?_, ?_⟩⟩
  · rw [operation_block, hr, if_pos rfl]
  · obtain ⟨i, hi⟩ := operation_total s hb
    obtain ⟨r, hr⟩ := exec_total i s
    refine ⟨i, r, hi, rfl, subUnit_of_decode hi, hr, ?_⟩
    rw [← State.performed_eq hi hr]
    exact s.committed_advance_adopt hb
  · rw [State.committed, State.advance_adoptAll]
    exact ⟨s.advance_cfg, rfl, rfl, rfl⟩

/-! ### The arranged state -/

theorem avoid_ne {bad y : Nat} (x : Nat) (h : y ≠ bad) : avoid bad x y ≠ bad := by
  unfold avoid
  split
  · exact h
  · assumption

/-- One of 0 and 1 is not the value to avoid, so a counter can avoid any value. -/
theorem avoid_zero_one_ne (bad : Nat) : avoid bad 0 1 ≠ bad := by
  unfold avoid
  split <;> omega

theorem cap_setEdge (s : State) : (s.setEdge s.cfg.captureEdge).cap = true := by
  unfold State.cap State.setEdge
  cases hedge : s.cfg.captureEdge <;> simp [hedge, State.rise, State.fall]

theorem shp_setEdge (s : State) : (s.setEdge s.cfg.shiftEdge).shp = true := by
  unfold State.shp State.setEdge Config.shiftEdge
  cases hedge : s.cfg.captureEdge <;> simp [hedge, State.rise, State.fall]

/-- The choice of edge writes neither the request nor the SpiMaster's state. -/
theorem start_setEdge (s : State) (e : Edge) : (s.setEdge e).start = s.start := by
  cases e <;> rfl

/-- With the delayed clock at the clock's level there is no edge pulse (R47). -/
theorem cap_setSclkQ (s : State) : (s.setSclkQ s.ctl.sclk).cap = false := by
  unfold State.cap State.rise State.fall
  simp only [State.setSclkQ_cfg, State.setSclkQ_ctl, State.setSclkQ_sclkQ]
  cases s.cfg.captureEdge <;> simp

theorem shp_setSclkQ (s : State) : (s.setSclkQ s.ctl.sclk).shp = false := by
  unfold State.shp State.rise State.fall
  simp only [State.setSclkQ_cfg, State.setSclkQ_ctl, State.setSclkQ_sclkQ]
  cases s.cfg.captureEdge <;> simp

theorem start_of_no_request {s : State} (h : s.inp.en = false) : s.start = false := by
  rw [State.start, State.inEn, h, Bool.and_false]

/-- A `fix` that is 1 wherever a digit is 5 or more leaves nothing to correct (R171). -/
theorem corr_of_fix {s : State} (h : s.bcd.fix = any5 s.bcd.acc) : s.corr = false := by
  rw [State.corr, h, Bool.and_not_self]

theorem any5_arranged (acc : Packed) : any5 (if any5 acc then acc else 5) = true := by
  split
  · assumption
  · decide

theorem setEdge_inp (s : State) (e : Edge) : (s.setEdge e).inp = s.inp := by
  cases e <;> rfl

/-- Only RESET is arranged with `rst = 1` (R80). -/
theorem arrange_rst (s : State) (i : Instr) :
    (s.arrange i).inp.rst = decide (i.subUnit = .block) := by
  cases i with
  | tgStrobe t => exact congrArg Inputs.rst (State.setTick_inp _ t _)
  | tgCount t => exact congrArg Inputs.rst (State.setTick_inp _ t _)
  | spiShiftOut => exact congrArg Inputs.rst (setEdge_inp _ _)
  | spiCapture => exact congrArg Inputs.rst (setEdge_inp _ _)
  | _ => rfl

/-- The arranged state gives the operation's sub-unit a vector that selects it: each condition that the
operation's row asks for is one that the arrangement sets. -/
theorem arrange_operation (s : State) (i : Instr) :
    (s.arrange i).operation i.subUnit = .ok i := by
  cases i with
  | reset => rw [Instr.subUnit, operation_block]; rfl
  | tgStrobe t =>
    rw [Instr.subUnit, operation_tg, State.arrange, State.setTick_tickCnt, if_pos rfl]
  | tgCount t =>
    rw [Instr.subUnit, operation_tg, State.arrange, State.setTick_tickCnt,
      if_neg (avoid_ne _ one_ne_zero)]
  | spiIdle => rw [Instr.subUnit, operation_spiCtl]; rfl
  | spiStart => rw [Instr.subUnit, operation_spiCtl]; rfl
  | spiWait =>
    rw [Instr.subUnit, operation_spiCtl]
    simp [State.arrange, avoid_ne]
  | spiToggle =>
    rw [Instr.subUnit, operation_spiCtl]
    simp [State.arrange, avoid_ne]
  | spiLastToggle => rw [Instr.subUnit, operation_spiCtl]; rfl
  | spiLoad => rw [Instr.subUnit, operation_spiTx]; rfl
  | spiShiftOut =>
    have hstart : (s.arrange .spiShiftOut).start = false :=
      (start_setEdge _ _).trans (start_of_no_request rfl)
    have hshp : (s.arrange .spiShiftOut).shp = true := shp_setEdge _
    rw [Instr.subUnit, operation_spiTx, hstart, hshp]; rfl
  | spiTxHold =>
    have hstart : (s.arrange .spiTxHold).start = false := start_of_no_request rfl
    have hshp : (s.arrange .spiTxHold).shp = false := shp_setSclkQ _
    rw [Instr.subUnit, operation_spiTx, hstart, hshp]; rfl
  | spiCapture =>
    have hcap : (s.arrange .spiCapture).cap = true := cap_setEdge _
    rw [Instr.subUnit, operation_spiRx, hcap, if_pos rfl]
  | spiRxHold =>
    have hcap : (s.arrange .spiRxHold).cap = false := cap_setSclkQ _
    rw [Instr.subUnit, operation_spiRx, hcap]; rfl
  | spiClkDelay => exact operation_spiDly _
  | bcdStart => rw [Instr.subUnit, operation_bcd]; rfl
  | bcdIdle => rw [Instr.subUnit, operation_bcd]; rfl
  | bcdAdd3 =>
    have hcorr : (s.arrange .bcdAdd3).corr = true :=
      (Bool.and_true _).trans (any5_arranged s.bcd.acc)
    rw [Instr.subUnit, operation_bcd, hcorr]; rfl
  | bcdShift =>
    have hcorr : (s.arrange .bcdShift).corr = false := corr_of_fix rfl
    have hcnt : (s.arrange .bcdShift).bcd.cnt ≠ 1 := avoid_ne _ (by decide)
    rw [Instr.subUnit, operation_bcd, hcorr, if_neg hcnt]; rfl
  | bcdLastShift =>
    have hcorr : (s.arrange .bcdLastShift).corr = false := corr_of_fix rfl
    rw [Instr.subUnit, operation_bcd, hcorr]; rfl
  | dsAdvance => rw [Instr.subUnit, operation_ds]; rfl
  | dsHold =>
    have hcnt : (s.arrange .dsHold).dispTick ≠ 0 := avoid_ne _ one_ne_zero
    rw [Instr.subUnit, operation_ds, if_neg hcnt]
  | dbSyncShift => exact operation_dbSync _
  | dbMatch =>
    have hsame : (s.arrange .dbMatch).sync.s2 = (s.arrange .dbMatch).filt.stable := rfl
    rw [Instr.subUnit, operation_dbFilt, if_pos hsame]
  | dbCount =>
    have hdiffers : (s.arrange .dbCount).sync.s2 ≠ (s.arrange .dbCount).filt.stable :=
      Bool.not_ne_self s.filt.stable
    have hcnt : (s.arrange .dbCount).filt.cnt ≠ (s.arrange .dbCount).cfg.debFull :=
      avoid_ne _ (avoid_zero_one_ne _)
    rw [Instr.subUnit, operation_dbFilt, if_neg hdiffers, if_neg hcnt]
  | dbFlipUp =>
    have hdiffers : (s.arrange .dbFlipUp).sync.s2 ≠ (s.arrange .dbFlipUp).filt.stable :=
      Bool.false_ne_true.symm
    have hfull : (s.arrange .dbFlipUp).filt.cnt = (s.arrange .dbFlipUp).cfg.debFull := rfl
    rw [Instr.subUnit, operation_dbFilt, if_neg hdiffers, if_pos hfull]; rfl
  | dbFlipDown =>
    have hdiffers : (s.arrange .dbFlipDown).sync.s2 ≠ (s.arrange .dbFlipDown).filt.stable :=
      Bool.false_ne_true
    have hfull : (s.arrange .dbFlipDown).filt.cnt = (s.arrange .dbFlipDown).cfg.debFull := rfl
    rw [Instr.subUnit, operation_dbFilt, if_neg hdiffers, if_pos hfull]; rfl

theorem withFetchWord_of_some {nbits w : Nat} {i : Instr} (h : decodeTableWord nbits w = some i)
    (s : State) : s.withFetchWord nbits w = s.arrange i := by
  rw [State.withFetchWord, State.arrangeWord, h]

/-- Settles O13: the arrangement of each operation, and the word read as that operation. -/
theorem arrangedOperationIsPerformed : Obligations.ArrangedOperationIsPerformed :=
  ⟨fun s i => ⟨arrange_operation s i, arrange_rst s i⟩,
    fun s _ _ _ h => withFetchWord_of_some h s⟩

end Sys2Proof.Machine

/-! The step as chains of priorities (Machine/Rtl.lean; 40_tick_generator.md R104, 41_spi_master.md
R122, 42_bcd_converter.md R162, 43_display_scanner.md R192, 60_exceptions.md R234): what one commit
leaves in each sub-unit's registers. -/

namespace Sys2Proof.Machine

/-! ### SPI_CTL's chain of priorities, case by case -/

/-- SPI_CTL in IDLE: at rest, and in TRANSFER after a request (R130, R131). -/
theorem nextCtl_of_idle {c : Config} {r : SpiCtl} (en : Bool) (hi : r.state = .idle) :
    nextCtl c en r = spiRest c (if en then .transfer else .idle) := by
  simp only [nextCtl, hi, spiRest]

/-- SPI_CTL in TRANSFER within a half period (R132). -/
theorem nextCtl_of_wait {c : Config} {r : SpiCtl} (en : Bool) (ht : r.state = .transfer)
    (hd : r.div ≠ 0) : nextCtl c en r = { r with div := decAt c.divWidth r.div } := by
  simp only [nextCtl, ht, ne_eq, hd, not_false_eq_true, if_true]

/-- SPI_CTL at the end of a half period with more edges to come (R133). -/
theorem nextCtl_of_toggle {c : Config} {r : SpiCtl} (en : Bool) (ht : r.state = .transfer)
    (hd : r.div = 0) (he : r.edges ≠ 1) :
    nextCtl c en r =
      { r with div := c.spiDiv, edges := decAt c.edgeWidth r.edges, sclk := !r.sclk } := by
  simp only [nextCtl, ht, ne_eq, hd, he, not_true_eq_false, if_false]

/-- SPI_CTL at the last edge of a transfer (R134). -/
theorem nextCtl_of_lastToggle {c : Config} {r : SpiCtl} (en : Bool) (ht : r.state = .transfer)
    (hd : r.div = 0) (he : r.edges = 1) :
    nextCtl c en r = { state := .idle, div := c.spiDiv, edges := 0, sclk := !r.sclk } := by
  simp only [nextCtl, ht, ne_eq, hd, he, not_true_eq_false, if_false, if_true]

/-! ### Each sub-unit's registers after a commit -/

theorem committed_cfg (s : State) : s.committed.cfg = s.cfg := rfl

theorem committed_tickCnt (s : State) (p : TickInst) :
    s.committed.tickCnt p = nextTick (s.cfg.tickParams p) (s.tickCnt p) := by
  have hop := operation_tg s p
  have hcommit : s.committed.tickCnt p = (s.performed (.tg p)).tickCnt p := by cases p <;> rfl
  unfold nextTick
  split_ifs at hop ⊢ with hzero
  · rw [hcommit, State.performed_eq hop rfl, State.setTick_tickCnt]
  · rw [hcommit, State.performed_eq hop rfl, State.setTick_tickCnt]

theorem committed_tick (s : State) : s.committed.tick = nextTick s.cfg.tick s.tick :=
  committed_tickCnt s .standalone

theorem committed_dispTick (s : State) :
    s.committed.dispTick = nextTick s.cfg.dispTick s.dispTick :=
  committed_tickCnt s .display

theorem committed_ctl (s : State) : s.committed.ctl = nextCtl s.cfg s.inEn s.ctl := by
  have hop := operation_spiCtl s
  cases hstate : s.ctl.state with
  | idle =>
    simp only [hstate] at hop
    rw [nextCtl_of_idle _ hstate, State.inEn]
    split_ifs at hop ⊢ with hen
    · exact (congrArg State.ctl (State.performed_eq hop rfl) :)
    · rw [← hstate]
      exact (congrArg State.ctl (State.performed_eq hop rfl) :)
  | transfer =>
    simp only [hstate] at hop
    split_ifs at hop with hdiv hlast
    · rw [nextCtl_of_lastToggle _ hstate hdiv hlast]
      exact (congrArg State.ctl (State.performed_eq hop rfl) :)
    · rw [nextCtl_of_toggle _ hstate hdiv hlast]
      exact (congrArg State.ctl (State.performed_eq hop rfl) :)
    · rw [nextCtl_of_wait _ hstate hdiv]
      exact (congrArg State.ctl (State.performed_eq hop rfl) :)

theorem committed_tx (s : State) : s.committed.tx = nextTx s := by
  have hop := operation_spiTx s
  unfold nextTx
  split_ifs at hop ⊢ <;> exact (congrArg State.tx (State.performed_eq hop rfl) :)

theorem committed_rx (s : State) : s.committed.rx = nextRx s := by
  have hop := operation_spiRx s
  unfold nextRx
  split_ifs at hop ⊢ <;> exact (congrArg State.rx (State.performed_eq hop rfl) :)

theorem committed_sclkQ (s : State) : s.committed.sclkQ = s.ctl.sclk :=
  congrArg State.sclkQ (State.performed_eq (operation_spiDly s) rfl)

theorem committed_idx (s : State) :
    s.committed.idx = if s.dispTick = 0 then s.idx + 1 else s.idx := by
  have hop := operation_ds s
  split_ifs at hop ⊢ <;> exact (congrArg State.idx (State.performed_eq hop rfl) :)

theorem committed_sync (s : State) : s.committed.sync = { s1 := s.inA, s2 := s.sync.s1 } :=
  congrArg State.sync (State.performed_eq (operation_dbSync s) rfl)

/-! ### The BcdConverter's correction and shift -/

/-- `{acc, work} << 1` of R173 before the cut to the joint register's width. -/
def doubledJoint (w : Nat) (b : Bcd) : Nat := 2 * (b.acc.toNat * 2 ^ w + cut w b.work)

theorem shiftedJoint_eq (w : Nat) (b : Bcd) : shiftedJoint w b = cut (16 + w) (doubledJoint w b) :=
  rfl

/-- Neither half of the joint shift sees the cut of the joint register (R173). -/
theorem shiftedWork_eq (w : Nat) (b : Bcd) : shiftedWork w b = cut w (doubledJoint w b) := by
  rw [shiftedWork, shiftedJoint_eq]
  exact Nat.mod_mod_of_dvd _ (Nat.pow_dvd_pow 2 (Nat.le_add_left w 16))

theorem shiftedAcc_eq (w : Nat) (b : Bcd) :
    shiftedAcc w b = BitVec.ofNat 16 (doubledJoint w b / 2 ^ w) := by
  apply BitVec.eq_of_toNat_eq
  rw [shiftedAcc, shiftedJoint_eq, cut, BitVec.toNat_ofNat, BitVec.toNat_ofNat, pow_add,
    Nat.mod_mul_left_div_self, Nat.mod_mod]

/-- The saturating correction in both forms (R172, 90_conflicts.md C9). -/
theorem add3Digit_eq_bump (n : Nibble) : add3Digit n = nextConversion.bump n := by
  revert n; decide

theorem add3_eq (acc : Packed) :
    add3 acc = packNibbles (nextConversion.bump (nibble acc 0)) (nextConversion.bump (nibble acc 1))
      (nextConversion.bump (nibble acc 2)) (nextConversion.bump (nibble acc 3)) := by
  simp only [add3, add3Digit_eq_bump]

/-- What a conversion does in a cycle without a start, in the terms of the operations (R172 to
R175). -/
theorem nextConversion_eq (c : Config) (r : Bcd) :
    nextConversion c r =
      if r.active = false then r
      else if any5 r.acc && !r.fix then { r with acc := add3 r.acc, fix := true }
      else if r.cnt = 1 then
        { work := shiftedWork c.bcdW r, acc := shiftedAcc c.bcdW r, cnt := 0, active := false,
          fix := false, out := shiftedAcc c.bcdW r }
      else
        { r with acc := shiftedAcc c.bcdW r, work := shiftedWork c.bcdW r, fix := false,
                 cnt := decAt c.bcdCntWidth r.cnt } := by
  rw [add3_eq, shiftedWork_eq, shiftedAcc_eq]
  unfold nextConversion doubledJoint
  simp only [Bool.not_eq_true']

theorem committed_bcd (s : State) : s.committed.bcd = nextBcd s := by
  have hop := operation_bcd s
  unfold nextBcd State.inEnable
  rw [nextConversion_eq]
  unfold State.corr at hop
  split_ifs at hop ⊢ <;> exact (congrArg State.bcd (State.performed_eq hop rfl) :)

/-! ### The commit as a whole -/

/-- Without a RESET the operations that the decode tables select leave what the chains of priorities
give, sub-unit by sub-unit. -/
theorem committed_eq_nextRegisters {s : State} (hr : s.inp.rst = false) :
    s.committed = s.nextRegisters := by
  rw [State.nextRegisters, State.inRst, hr, if_neg Bool.false_ne_true, ← committed_tick,
    ← committed_dispTick, ← committed_ctl, ← committed_tx, ← committed_rx, ← committed_sclkQ,
    ← committed_bcd, ← committed_idx, ← committed_sync, ← committed_filt]
  rfl

/-- Settles O9: RESET is the first choice of both descriptions, and the commits agree otherwise. -/
theorem stepAgreesWithPriorityChains : Obligations.StepAgreesWithPriorityChains := by
  intro s hw
  cases hr : s.inp.rst with
  | true => rw [step_of_rst hw hr, State.nextRegisters, State.inRst, hr, if_pos rfl]
  | false => rw [step_of_not_rst hw hr, committed_eq_nextRegisters hr]

end Sys2Proof.Machine

/-! The invariant of the registers (40_tick_generator.md R101, 41_spi_master.md R125,
42_bcd_converter.md R168 and R178, 44_edge_synchronizer.md R216, 10_state.md R50) through a step,
one unit at a time on the chains of priorities. -/

namespace Sys2Proof.Machine

/-! ### The TickGenerators' counters -/

theorem nextTick_of_zero (p : TickParams) : nextTick p 0 = p.reload := if_pos rfl

/-- A counter in its range counts down without wrapping (R101, R106). -/
theorem nextTick_of_ne_zero {p : TickParams} {cnt : Nat} (h0 : cnt ≠ 0) (h : TickInv p cnt) :
    nextTick p cnt = cnt - 1 := by
  rw [nextTick, if_neg h0, decAt_eq (Nat.one_le_iff_ne_zero.2 h0) (tick_lt_width p h)]

theorem tickInv_nextTick {p : TickParams} {cnt : Nat} (h : TickInv p cnt) :
    TickInv p (nextTick p cnt) := by
  by_cases h0 : cnt = 0
  · rw [h0, nextTick_of_zero]
    exact le_rfl
  · rw [nextTick_of_ne_zero h0 h]
    exact (Nat.sub_le _ _).trans h

/-! ### The SpiMaster's registers -/

/-- The part of `SpiInv` about SPI_CTL's registers and the delayed bus clock (R125). -/
def CtlInv (c : Config) (sclkQ : Bool) (r : SpiCtl) : Prop :=
  r.div ≤ c.spiDiv ∧
  (r.state = .transfer →
    1 ≤ r.edges ∧ r.edges ≤ 2 * c.spiW ∧ (r.sclk = true ↔ r.edges % 2 = 1)) ∧
  (r.state = .idle →
    r.sclk = false ∧ (r.edges = 2 * c.spiW ∧ sclkQ = false ∨ r.edges = 0 ∧ sclkQ = true))

theorem spiInv_iff (s : State) :
    SpiInv s ↔ CtlInv s.cfg s.sclkQ s.ctl ∧ s.tx < 2 ^ s.cfg.spiW ∧ s.rx < 2 ^ s.cfg.spiW := by
  unfold SpiInv CtlInv
  tauto

/-- At rest the bus clock is low with an even number of edges to come, in either state. -/
theorem ctlInv_spiRest {c : Config} (hw : 1 ≤ c.spiW) (st : SpiState) :
    CtlInv c false (spiRest c st) := by
  refine ⟨le_rfl, fun _ => ⟨?_, le_rfl, ?_⟩, fun _ => ⟨rfl, .inl ⟨rfl, rfl⟩⟩⟩
  · simp only [spiRest, Config.spiEdges]; omega
  · simp [spiRest, Config.spiEdges]

/-- The delayed bus clock takes over the bus clock in the same commit (R143). -/
theorem ctlInv_nextCtl {c : Config} {q : Bool} {r : SpiCtl} (en : Bool) (hw : 1 ≤ c.spiW)
    (h : CtlInv c q r) : CtlInv c r.sclk (nextCtl c en r) := by
  obtain ⟨hdiv, htransfer, hidle⟩ := h
  cases hstate : r.state with
  | idle =>
    obtain ⟨hlow, -⟩ := hidle hstate
    rw [nextCtl_of_idle en hstate, hlow]
    exact ctlInv_spiRest hw _
  | transfer =>
    obtain ⟨hpos, hmax, hodd⟩ := htransfer hstate
    by_cases hd : r.div = 0
    · by_cases he : r.edges = 1
      · have hhigh : r.sclk = true := hodd.2 (by rw [he])
        rw [nextCtl_of_lastToggle en hstate hd he, hhigh]
        exact ⟨le_rfl, nofun, fun _ => ⟨rfl, .inr ⟨rfl, rfl⟩⟩⟩
      · rw [nextCtl_of_toggle en hstate hd he, decAt_eq hpos (edges_lt_width c hmax)]
        refine ⟨le_rfl, fun _ => ⟨?_, ?_, ?_⟩, fun hi => ?_⟩
        · dsimp only; omega
        · dsimp only; omega
        · dsimp only
          rw [Bool.not_eq_true', ← Bool.not_eq_true, hodd]
          omega
        · exact absurd (hstate.symm.trans hi) nofun
    · rw [nextCtl_of_wait en hstate hd,
        decAt_eq (Nat.one_le_iff_ne_zero.2 hd) (div_lt_width c hdiv)]
      exact ⟨(Nat.sub_le _ _).trans hdiv, htransfer, fun hi => absurd (hstate.symm.trans hi) nofun⟩

theorem nextTx_lt {s : State} (h : s.tx < 2 ^ s.cfg.spiW) : nextTx s < 2 ^ s.cfg.spiW := by
  unfold nextTx
  split_ifs
  · exact cut_lt _ _
  · exact shiftIn_lt _ _ _
  · exact h

theorem nextRx_lt {s : State} (h : s.rx < 2 ^ s.cfg.spiW) : nextRx s < 2 ^ s.cfg.spiW := by
  unfold nextRx
  split_ifs
  · exact shiftIn_lt _ _ _
  · exact h

theorem spiInv_committed {s : State} (hw : 1 ≤ s.cfg.spiW) (h : SpiInv s) :
    SpiInv s.committed := by
  obtain ⟨hctl, htx, hrx⟩ := (spiInv_iff s).1 h
  rw [spiInv_iff, committed_ctl, committed_tx, committed_rx, committed_sclkQ]
  exact ⟨ctlInv_nextCtl s.inEn hw hctl, nextTx_lt htx, nextRx_lt hrx⟩

/-! ### The BcdConverter's digits -/

/-- `DigitBound` of each of the four digits (R178). -/
def DigitsBound (fix : Bool) (acc : Packed) : Prop :=
  DigitBound fix (nibble acc 0) ∧ DigitBound fix (nibble acc 1) ∧ DigitBound fix (nibble acc 2) ∧
    DigitBound fix (nibble acc 3)

theorem digitsBound_iff (fix : Bool) (acc : Packed) :
    DigitsBound fix acc ↔ ∀ i < 4, DigitBound fix (nibble acc i) := by
  rw [DigitsBound]
  constructor
  · rintro ⟨h0, h1, h2, h3⟩ i hi
    interval_cases i <;> assumption
  · intro h
    exact ⟨h 0 (by omega), h 1 (by omega), h 2 (by omega), h 3 (by omega)⟩

/-- A correction takes a digit of at most 9 to one of at most 4 or 8 to 12 (R172, R178). -/
theorem digitBound_add3Digit {n : Nibble} (h : DigitBound false n) :
    DigitBound true (add3Digit n) := by
  revert n; decide

theorem digitsBound_add3 {acc : Packed} (h : DigitsBound false acc) :
    DigitsBound true (add3 acc) := by
  obtain ⟨h0, h1, h2, h3⟩ := h
  obtain ⟨e0, e1, e2, e3⟩ := nibble_packNibbles (add3Digit (nibble acc 0))
    (add3Digit (nibble acc 1)) (add3Digit (nibble acc 2)) (add3Digit (nibble acc 3))
  rw [DigitsBound, add3, e0, e1, e2, e3]
  exact ⟨digitBound_add3Digit h0, digitBound_add3Digit h1, digitBound_add3Digit h2,
    digitBound_add3Digit h3⟩

theorem any5_eq_false_iff (acc : Packed) :
    any5 acc = false ↔ ∀ i < 4, (nibble acc i).toNat < 5 := by
  simp only [any5, ge5, Bool.or_eq_false_iff, decide_eq_false_iff_not, Nat.not_le]
  constructor
  · rintro ⟨⟨⟨h0, h1⟩, h2⟩, h3⟩ i hi
    interval_cases i <;> assumption
  · intro h
    exact ⟨⟨⟨h 0 (by omega), h 1 (by omega)⟩, h 2 (by omega)⟩, h 3 (by omega)⟩

/-- Where no correction is due, the digits are such as a correction leaves. -/
theorem digitsBound_of_no_correction {fix : Bool} {acc : Packed} (h : DigitsBound fix acc)
    (hc : ¬(any5 acc && !fix) = true) : DigitsBound true acc := by
  cases fix with
  | true => exact h
  | false =>
    have hlow : any5 acc = false := by simpa using hc
    exact (digitsBound_iff true acc).2 fun i hi =>
      .inl (Nat.le_of_lt_succ ((any5_eq_false_iff acc).1 hlow i hi))

/-- The joint shift doubles the accumulator and shifts in the top bit of `work` (R173). -/
theorem shiftedAcc_toNat (w : Nat) (b : Bcd) :
    ∃ carry ≤ 1, (shiftedAcc w b).toNat = (2 * b.acc.toNat + carry) % 2 ^ 16 := by
  have hcarry : 2 * cut w b.work / 2 ^ w < 2 :=
    Nat.div_lt_of_lt_mul (by have := cut_lt w b.work; omega)
  refine ⟨2 * cut w b.work / 2 ^ w, Nat.le_of_lt_succ hcarry, ?_⟩
  rw [shiftedAcc_eq, BitVec.toNat_ofNat, doubledJoint, mul_add, ← mul_assoc, add_comm,
    Nat.add_mul_div_right _ _ (Nat.two_pow_pos w), add_comm]

/-- In the joint shift each digit doubles and takes the top bit of the digit below (R173). -/
theorem nibble_shiftedAcc (w : Nat) (b : Bcd) {i : Nat} (hi : i < 4) :
    ∃ carry ≤ 1,
      (nibble (shiftedAcc w b) i).toNat = (2 * (nibble b.acc i).toNat + carry) % 16 := by
  obtain ⟨carry, hcarry, hacc⟩ := shiftedAcc_toNat w b
  refine ⟨(2 * (b.acc.toNat % 16 ^ i) + carry) / 16 ^ i, ?_, ?_⟩
  · refine Nat.le_of_lt_succ (Nat.div_lt_of_lt_mul ?_)
    have := Nat.mod_lt b.acc.toNat (show 0 < 16 ^ i by positivity)
    omega
  · rw [nibble_toNat, nibble_toNat, hacc]
    interval_cases i <;> omega

theorem digitsBound_shiftedAcc {w : Nat} {b : Bcd} (h : DigitsBound true b.acc) :
    DigitsBound false (shiftedAcc w b) := by
  refine (digitsBound_iff _ _).2 fun i hi => ?_
  obtain ⟨carry, hcarry, hdigit⟩ := nibble_shiftedAcc w b hi
  have hbefore : (nibble b.acc i).toNat ≤ 4 ∨
      8 ≤ (nibble b.acc i).toNat ∧ (nibble b.acc i).toNat ≤ 12 := (digitsBound_iff _ _).1 h i hi
  show (nibble (shiftedAcc w b) i).toNat ≤ 9
  omega

/-! ### The BcdConverter's registers -/

/-- `BcdInv` on the parameters and the converter's registers alone. -/
def ConverterInv (c : Config) (r : Bcd) : Prop :=
  r.work < 2 ^ c.bcdW ∧ r.cnt ≤ c.bcdW ∧ (r.active = true → 1 ≤ r.cnt) ∧
  (r.active = false → r.cnt = 0) ∧ (r.active = true → DigitsBound r.fix r.acc)

theorem bcdInv_iff (s : State) : BcdInv s ↔ ConverterInv s.cfg s.bcd := Iff.rfl

theorem shiftedWork_lt (w : Nat) (b : Bcd) : shiftedWork w b < 2 ^ w := cut_lt w _

theorem converterInv_nextConversion {c : Config} {r : Bcd} (h : ConverterInv c r) :
    ConverterInv c (nextConversion c r) := by
  obtain ⟨hwork, hmax, hpos, hzero, hdigits⟩ := h
  rw [nextConversion_eq]
  split_ifs with hactive hcorr hlast
  · exact ⟨hwork, hmax, hpos, hzero, hdigits⟩
  · have hfix : r.fix = false := by simpa using (Bool.and_eq_true_iff.1 hcorr).2
    refine ⟨hwork, hmax, hpos, hzero, fun ha => digitsBound_add3 ?_⟩
    rw [← hfix]
    exact hdigits ha
  · exact ⟨shiftedWork_lt _ _, Nat.zero_le _, nofun, fun _ => rfl, nofun⟩
  · have ha : r.active = true := by simpa using hactive
    have hcnt : decAt c.bcdCntWidth r.cnt = r.cnt - 1 :=
      decAt_eq (hpos ha) (bcdCnt_lt_width c hmax)
    have hone := hpos ha
    rw [hcnt]
    refine ⟨shiftedWork_lt _ _, (Nat.sub_le _ _).trans hmax, fun _ => ?_,
      fun hidle => absurd hidle hactive, fun _ =>
        digitsBound_shiftedAcc (digitsBound_of_no_correction (hdigits ha) hcorr)⟩
    dsimp only; omega

theorem digitsBound_zero (fix : Bool) : DigitsBound fix 0 := by
  unfold DigitsBound
  revert fix; decide

theorem converterInv_nextBcd {s : State} (hw : 1 ≤ s.cfg.bcdW) (h : ConverterInv s.cfg s.bcd) :
    ConverterInv s.cfg (nextBcd s) := by
  unfold nextBcd
  split_ifs
  · exact ⟨cut_lt _ _, le_rfl, fun _ => hw, nofun, fun _ => digitsBound_zero false⟩
  · exact converterInv_nextConversion h

theorem bcdInv_committed {s : State} (hw : 1 ≤ s.cfg.bcdW) (h : BcdInv s) :
    BcdInv s.committed := by
  rw [bcdInv_iff, committed_bcd]
  exact converterInv_nextBcd hw h

/-! ### The filter's registers -/

theorem nextFilt_cnt_le {c : Config} {s2 : Bool} {r : DbFilt} (h : r.cnt ≤ c.debN - 1) :
    (nextFilt c s2 r).cnt ≤ c.debN - 1 := by
  unfold nextFilt
  split_ifs with hmatch hfull
  · exact Nat.zero_le _
  · exact Nat.zero_le _
  · have hroom : r.cnt + 1 ≤ c.debN - 1 := by omega
    dsimp only
    rw [incAt_eq (debCnt_lt_width c hroom)]
    exact hroom

theorem debInv_committed {s : State} (h : DebInv s) : DebInv s.committed := by
  obtain ⟨hcnt, -, -⟩ := h
  unfold DebInv
  rw [committed_filt]
  exact ⟨nextFilt_cnt_le hcnt, fun hup => ((nextFilt_up_iff _ _ _).1 hup).2,
    fun hdown => ((nextFilt_down_iff _ _ _).1 hdown).2⟩

/-! ### The whole core -/

theorem inv_committed {s : State} (h : Inv s) : Inv s.committed := by
  obtain ⟨hw, htick, hdisp, hspi, hbcd, hdeb⟩ := h
  obtain ⟨hspiW, hbcdW, -⟩ := (wellFormed_iff s.cfg).1 hw
  refine ⟨hw, ?_, ?_, spiInv_committed hspiW hspi, bcdInv_committed hbcdW hbcd,
    debInv_committed hdeb⟩
  · rw [committed_tick]
    exact tickInv_nextTick htick
  · rw [committed_dispTick]
    exact tickInv_nextTick hdisp

/-- RESET leaves the registers of the reset state, which meets the invariant (R53, R260). -/
theorem inv_resetRegisters {s : State} (hw : s.cfg.wellFormed = true) : Inv s.resetRegisters :=
  inv_resetOf hw

/-- The invariant is of registers and parameters, not of input levels. -/
theorem inv_advance (s : State) : Inv s.advance ↔ Inv s := by
  simp only [Inv, SpiInv, BcdInv, DebInv, State.advance_cfg, State.advance_tick,
    State.advance_dispTick, State.advance_ctl, State.advance_tx, State.advance_rx,
    State.advance_sclkQ, State.advance_bcd, State.advance_filt]

/-- Settles O31: a step is RESET, or the commit of the chains of priorities. -/
theorem everyStepKeepsTheInvariant : Obligations.EveryStepKeepsTheInvariant := by
  intro s t h hstep
  obtain ⟨hw, ⟨-, rfl⟩ | ⟨-, rfl⟩⟩ := step_next hstep
  · exact (inv_advance _).2 (inv_resetRegisters hw)
  · exact (inv_advance _).2 (inv_committed h)

end Sys2Proof.Machine

/-! Runs of several cycles (60_exceptions.md R242 to R244), and the TickGenerator: its two
operations (40_tick_generator.md R105, R106), its period (R103) and the period of one cycle (R102). -/

namespace Sys2Proof.Machine

/-! ### Runs of several cycles -/

/-- The environment's levels do not depend on the registers (R243). -/
theorem inputsAt_adoptAll (s : State) (f : SubUnit → State) (k : Nat) :
    (s.adoptAll f).inputsAt k = s.inputsAt k := by
  induction k generalizing s with
  | zero => rfl
  | succ k ih => rw [inputsAt_succ, inputsAt_succ, State.advance_adoptAll, ih]

theorem step_inputsAt {s t : State} (h : step s = .next t) (k : Nat) :
    t.inputsAt k = s.inputsAt (k + 1) := by
  obtain ⟨-, ⟨-, rfl⟩ | ⟨-, rfl⟩⟩ := step_next h
  · exact inputsAt_adoptAll s (fun _ => s.resetRegisters) (k + 1)
  · exact inputsAt_adoptAll s s.performed (k + 1)

theorem step_cfg {s t : State} (h : step s = .next t) : t.cfg = s.cfg := by
  obtain ⟨-, ⟨-, rfl⟩ | ⟨-, rfl⟩⟩ := step_next h
  · rw [State.advance_cfg, State.resetRegisters_cfg]
  · rw [State.advance_cfg, committed_cfg]

/-- A step of a legal machine is never refused (R232). -/
theorem step_total {s : State} (hw : s.cfg.wellFormed = true) : ∃ t, step s = .next t := by
  cases hr : s.inp.rst with
  | true => exact ⟨_, step_of_rst hw hr⟩
  | false => exact ⟨_, step_of_not_rst hw hr⟩

/-- Induction over the cycles of a run of a legal machine: what holds in cycle 0 and is carried from
each cycle `k < n` to the next holds in every cycle up to `n`. The cycle's input levels are those
that `s` foresees, and the parameters are those of `s`. -/
theorem after_induction {s : State} {n : Nat} {I : Nat → State → Prop}
    (hw : s.cfg.wellFormed = true) (h0 : I 0 s)
    (hstep : ∀ k t u, k < n → t.cfg = s.cfg → t.inp = s.inputsAt k → step t = .next u → I k t →
      I (k + 1) u) :
    ∀ k ≤ n, After s k (I k) := by
  have hrun : ∀ k ≤ n, After s k
      (fun t => (t.cfg = s.cfg ∧ ∀ j, t.inputsAt j = s.inputsAt (k + j)) ∧ I k t) := by
    intro k
    induction k with
    | zero => exact fun _ => .intro rfl ⟨⟨rfl, fun j => by rw [Nat.zero_add]⟩, h0⟩
    | succ k ih =>
      refine fun hk => (ih (Nat.le_of_succ_le hk)).succ ?_
      rintro t ⟨⟨hcfg, hinputs⟩, hI⟩
      obtain ⟨u, hu⟩ := step_total (hcfg ▸ hw)
      refine ⟨u, hu, ⟨(step_cfg hu).trans hcfg, fun j => ?_⟩, hstep k t u hk hcfg (hinputs 0) hu hI⟩
      rw [step_inputsAt hu, hinputs, Nat.succ_add_eq_add_succ]
  intro k hk
  obtain ⟨t, ht, -, hI⟩ := hrun k hk
  exact ⟨t, ht, hI⟩

/-- A run reaches one state, so what an equivalence says of it may be said of the run. -/
theorem after_iff {s : State} {k : Nat} {P : State → Prop} {p : Prop}
    (h : After s k (fun t => P t ↔ p)) : After s k P ↔ p := by
  obtain ⟨t, ht, hiff⟩ := h
  constructor
  · rintro ⟨t', ht', hP⟩
    cases ht.symm.trans ht'
    exact hiff.1 hP
  · exact fun hp => ⟨t, ht, hiff.2 hp⟩

/-! ### One cycle of a TickGenerator -/

theorem stb_iff (s : State) (p : TickInst) : s.stb p = true ↔ s.tickCnt p = 0 := beq_iff_eq

theorem State.advance_tickCnt (s : State) (p : TickInst) : s.advance.tickCnt p = s.tickCnt p := by
  cases p with
  | standalone => exact s.advance_tick
  | display => exact s.advance_dispTick

theorem State.resetRegisters_tickCnt (s : State) (p : TickInst) :
    s.resetRegisters.tickCnt p = (s.cfg.tickParams p).init := by
  cases p <;> rfl

/-- All that a step does to a TickGenerator's counter. -/
theorem step_tickCnt {s t : State} (h : step s = .next t) (p : TickInst) :
    t.tickCnt p =
      if s.inp.rst then (s.cfg.tickParams p).init
      else nextTick (s.cfg.tickParams p) (s.tickCnt p) := by
  obtain ⟨-, ⟨hr, rfl⟩ | ⟨hr, rfl⟩⟩ := step_next h
  · rw [hr, State.advance_tickCnt, State.resetRegisters_tickCnt, if_pos rfl]
  · rw [hr, State.advance_tickCnt, committed_tickCnt, if_neg Bool.false_ne_true]

/-- R262's check of `TICK_INIT`, for either TickGenerator. -/
theorem tickInv_init {c : Config} (hw : c.wellFormed = true) (p : TickInst) :
    TickInv (c.tickParams p) (c.tickParams p).init := by
  obtain ⟨-, -, -, htick, hdisp, -⟩ := (wellFormed_iff c).1 hw
  cases p with
  | standalone => exact htick
  | display => exact hdisp

/-- Settles O15: the decode table's two rows, and the one write of each operation. -/
theorem tickStrobeAndCount : Obligations.TickStrobeAndCount := by
  intro s p
  rw [operation_tg]
  refine ⟨?_, ?_, stb_iff s p, ⟨_, rfl, ?_, ?_⟩, ⟨_, rfl, fun hne hle => ?_, ?_⟩⟩
  · by_cases h : s.tickCnt p = 0 <;> simp [h]
  · by_cases h : s.tickCnt p = 0 <;> simp [h]
  · rw [State.setTick_tickCnt]; rfl
  · cases p <;> rfl
  · rw [State.setTick_tickCnt]
    exact decAt_eq (Nat.one_le_iff_ne_zero.2 hne) (tick_lt_width _ hle)
  · cases p <;> rfl

/-! ### The strobe of period 1 -/

/-- Settles O34: with the reload value 0 neither RESET nor TG_STROBE leaves a counter other than
0. -/
theorem zeroPeriodStrobesEveryCycle : Obligations.ZeroPeriodStrobesEveryCycle := by
  intro s p hw hn hcnt k
  have hreload : (s.cfg.tickParams p).reload = 0 := by unfold TickParams.reload; omega
  have hinit : (s.cfg.tickParams p).init = 0 :=
    Nat.le_zero.1 ((tickInv_init hw p).trans_eq hreload)
  have hzero : After s k (fun t => t.tickCnt p = 0) := by
    refine after_induction (I := fun _ t => t.tickCnt p = 0) hw hcnt ?_ k le_rfl
    intro k t u _ hcfg _ hstep ht
    rw [step_tickCnt hstep, hcfg, ht, nextTick_of_zero, hinit, hreload, ite_self]
  obtain ⟨t, ht, h0⟩ := hzero
  exact ⟨t, ht, h0, (stb_iff t p).2 h0⟩

/-! ### The strobe of any period -/

/-- The counter in cycle `k` of a run without RESET: in its range, and behind `TICK_INIT` by `k`
cycles modulo the period (R101, R103). -/
def TickPhase (p : TickParams) (k cnt : Nat) : Prop :=
  cnt < p.period ∧ (cnt + k) % p.period = p.init

theorem tickPhase_init {p : TickParams} (h : TickInv p p.init) : TickPhase p 0 p.init := by
  have hlt : p.init < p.period := by unfold TickParams.period; omega
  exact ⟨hlt, Nat.mod_eq_of_lt hlt⟩

theorem tickPhase_nextTick {p : TickParams} {k cnt : Nat} (h : TickPhase p k cnt) :
    TickPhase p (k + 1) (nextTick p cnt) := by
  obtain ⟨hlt, hphase⟩ := h
  have hperiod : p.period = p.reload + 1 := by unfold TickParams.period TickParams.reload; omega
  by_cases h0 : cnt = 0
  · rw [h0, nextTick_of_zero]
    refine ⟨by omega, ?_⟩
    rw [← hphase, h0, show p.reload + (k + 1) = 0 + k + p.period by omega, Nat.add_mod_right]
  · have hle : cnt ≤ p.reload := by omega
    rw [nextTick_of_ne_zero h0 hle]
    refine ⟨by omega, ?_⟩
    rw [← hphase, show cnt - 1 + (k + 1) = cnt + k by omega]

/-- The counter is 0 in exactly the cycles of the phase of `TICK_INIT`. -/
theorem cnt_eq_zero_iff_of_tickPhase {p : TickParams} {k cnt : Nat} (h : TickPhase p k cnt) :
    cnt = 0 ↔ k % p.period = p.init := by
  obtain ⟨hlt, hphase⟩ := h
  constructor
  · rintro rfl
    rwa [Nat.zero_add] at hphase
  · intro hk
    have hmod : cnt + k ≡ 0 + k [MOD p.period] := by
      rw [Nat.ModEq, hphase, Nat.zero_add, hk]
    exact Nat.ModEq.eq_of_lt_of_lt (Nat.ModEq.add_right_cancel' k hmod) hlt (by omega)

theorem after_stb_iff {s : State} {p : TickInst} {n : Nat} (hw : s.cfg.wellFormed = true)
    (hcnt : s.tickCnt p = (s.cfg.tickParams p).init) (hr : NoReset s n) {k : Nat} (hk : k ≤ n) :
    After s k (fun t => t.stb p = true ↔
      k % (s.cfg.tickParams p).period = (s.cfg.tickParams p).init) := by
  have hphase : After s k (fun t => TickPhase (s.cfg.tickParams p) k (t.tickCnt p)) := by
    refine after_induction (I := fun k t => TickPhase (s.cfg.tickParams p) k (t.tickCnt p)) hw
      ?_ ?_ k hk
    · rw [hcnt]
      exact tickPhase_init (tickInv_init hw p)
    · intro k t u hk hcfg hinp hstep ht
      rw [step_tickCnt hstep, hcfg, hinp, hr k hk, if_neg Bool.false_ne_true]
      exact tickPhase_nextTick ht
  obtain ⟨t, ht, hphase⟩ := hphase
  exact ⟨t, ht, (stb_iff t p).trans (cnt_eq_zero_iff_of_tickPhase hphase)⟩

theorem mod_eq_iff_exists_mul {k r m : Nat} (hr : r < m) : k % m = r ↔ ∃ q, k = r + q * m := by
  constructor
  · rintro rfl
    exact ⟨k / m, by rw [mul_comm, Nat.mod_add_div]⟩
  · rintro ⟨q, rfl⟩
    rw [Nat.add_mul_mod_self_right, Nat.mod_eq_of_lt hr]

/-- Any `m` consecutive numbers hold exactly one of a given remainder. -/
theorem exists_unique_mod_eq_in_window (a : Nat) {r m : Nat} (hr : r < m) :
    ∃ k, (a ≤ k ∧ k < a + m ∧ k % m = r) ∧ ∀ j, a ≤ j → j < a + m → j % m = r → j = k := by
  have hmem : r ∈ (Finset.Ico a (a + m)).image (· % m) := by
    rw [Nat.image_Ico_mod]
    exact Finset.mem_range.2 hr
  obtain ⟨k, hk, hmod⟩ := Finset.mem_image.1 hmem
  obtain ⟨hak, hka⟩ := Finset.mem_Ico.1 hk
  exact ⟨k, ⟨hak, hka, hmod⟩, fun j haj hja hj =>
    Nat.mod_injOn_Ico a m (Finset.mem_coe.2 (Finset.mem_Ico.2 ⟨haj, hja⟩)) (Finset.mem_coe.2 hk)
      (hj.trans hmod.symm)⟩

/-- Settles O33: the strobe comes in the cycles of one residue class modulo the period. -/
theorem strobePeriodLaw : Obligations.StrobePeriodLaw := by
  intro s p hw
  refine ⟨fun hcnt n hr => ?_, fun hr => ?_⟩
  · have hlt : (s.cfg.tickParams p).init < (s.cfg.tickParams p).period :=
      (tickPhase_init (tickInv_init hw p)).1
    refine ⟨fun k hk => ?_, fun a ha => ?_⟩
    · obtain ⟨t, ht, hstb⟩ := after_stb_iff hw hcnt hr hk
      exact ⟨t, ht, hstb.trans (mod_eq_iff_exists_mul hlt)⟩
    · have hstb {k : Nat} (hk : k < a + (s.cfg.tickParams p).period) :=
        after_iff (after_stb_iff hw hcnt hr (Nat.le_of_lt_succ (hk.trans_le ha)))
      obtain ⟨k, ⟨hak, hka, hmod⟩, hunique⟩ := exists_unique_mod_eq_in_window a hlt
      exact ⟨k, ⟨hak, hka, (hstb hka).2 hmod⟩,
        fun j haj hja hj => hunique j haj hja ((hstb hja).1 hj)⟩
  · obtain ⟨t, ht⟩ := step_total hw
    refine ⟨t, ht, ?_, step_cfg ht⟩
    rw [step_tickCnt ht, hr, if_pos rfl]

end Sys2Proof.Machine

/-! One cycle of the SpiMaster: what selects each of its operations and what each leaves
(41_spi_master.md R121, R130 to R143), and what a request in TRANSFER leaves (R151, R152). -/

namespace Sys2Proof.Machine

/-! ### The flags and the outputs that follow the SpiMaster's state -/

theorem spiBusy_iff (s : State) : s.spiBusy = true ↔ s.ctl.state = .transfer := beq_iff_eq

theorem start_iff (s : State) : s.start = true ↔ s.ctl.state = .idle ∧ s.inp.en = true := by
  simp only [State.start, State.inEn, Bool.and_eq_true, beq_iff_eq]

theorem start_eq_false_of_transfer {s : State} (h : s.ctl.state = .transfer) :
    s.start = false := by
  rw [State.start, h]; rfl

/-- In TRANSFER the SpiMaster is busy and its chip-select asserted (R46, R121). -/
theorem outputs_of_transfer {s : State} (h : s.ctl.state = .transfer) :
    s.outputs.spiBusy = true ∧ s.outputs.spiDone = false ∧ s.outputs.cs = !s.cfg.csActiveLow := by
  have hbusy : s.spiBusy = true := (spiBusy_iff s).2 h
  simp [State.outputs, State.spiDone, State.csPin, hbusy]

/-- In IDLE the SpiMaster is done and its chip-select deasserted (R46, R121). -/
theorem outputs_of_idle {s : State} (h : s.ctl.state = .idle) :
    s.outputs.spiBusy = false ∧ s.outputs.spiDone = true ∧ s.outputs.cs = s.cfg.csActiveLow := by
  have hbusy : s.spiBusy = false := by rw [State.spiBusy, h]; rfl
  simp [State.outputs, State.spiDone, State.csPin, hbusy]

theorem rise_iff (s : State) : s.rise = true ↔ s.ctl.sclk = true ∧ s.sclkQ = false := by
  simp only [State.rise, Bool.and_eq_true, Bool.not_eq_true']

theorem fall_iff (s : State) : s.fall = true ↔ s.ctl.sclk = false ∧ s.sclkQ = true := by
  simp only [State.fall, Bool.and_eq_true, Bool.not_eq_true']

/-- The pulse that announces an edge of the bus clock (R47). -/
def State.pulse (s : State) : Edge → Bool
  | .rise => s.rise
  | .fall => s.fall

theorem cap_eq_pulse (s : State) : s.cap = s.pulse s.cfg.captureEdge := by
  unfold State.cap
  cases s.cfg.captureEdge <;> rfl

theorem shp_eq_pulse (s : State) : s.shp = s.pulse s.cfg.shiftEdge := by
  unfold State.shp Config.shiftEdge
  cases s.cfg.captureEdge <;> rfl

/-! ### The operations -/

/-- Settles O16: SPI_CTL's decode table in IDLE, and the one write of each operation. -/
theorem spiIdleAndStart : Obligations.SpiIdleAndStart := by
  intro s
  have hop := operation_spiCtl s
  refine ⟨?_, ?_, ⟨_, rfl, rfl⟩, ⟨_, rfl, rfl, outputs_of_transfer rfl⟩, outputs_of_idle⟩
  all_goals
    rw [hop]
    cases s.ctl.state with
    | idle => cases s.inp.en <;> simp
    | transfer => dsimp only; split_ifs <;> simp

/-- Settles O17: SPI_CTL's decode table in TRANSFER, and the one write of each operation. -/
theorem spiWaitAndToggles : Obligations.SpiWaitAndToggles := by
  intro s
  have hop := operation_spiCtl s
  refine ⟨?_, ?_, ?_, ⟨_, rfl, rfl, fun hne hle => ?_⟩, ⟨_, rfl, rfl, fun hpos hle => ?_⟩,
    ⟨_, rfl, rfl, outputs_of_idle rfl⟩⟩
  case refine_4 => exact decAt_eq (Nat.one_le_iff_ne_zero.2 hne) (div_lt_width _ hle)
  case refine_5 => exact decAt_eq hpos (edges_lt_width _ hle)
  all_goals
    rw [hop]
    cases s.ctl.state with
    | idle => dsimp only; split_ifs <;> simp
    | transfer => dsimp only; split_ifs <;> simp [*]

/-- A shift that fills 0 moves every bit one up within the register (R138). -/
theorem shiftIn_false_testBit (w v k : Nat) :
    (shiftIn w v false).testBit k = (decide (k < w) && decide (1 ≤ k) && v.testBit (k - 1)) := by
  cases k with
  | zero => simp [shiftIn, cut]
  | succ k => simp [shiftIn_testBit_succ]

/-- Settles O18: SPI_TX's decode table, in which `start` comes before `shp`. -/
theorem spiTransmitRegister : Obligations.SpiTransmitRegister := by
  intro s
  rw [← start_iff, operation_spiTx]
  refine ⟨?_, ?_, ?_, ⟨_, rfl, rfl, cut_eq_of_lt, Nat.testBit_mod_two_pow _ _⟩,
    ⟨_, rfl, rfl, shiftIn_false_testBit _ _⟩, ⟨_, rfl, rfl⟩⟩
  all_goals cases s.start <;> cases s.shp <;> simp

/-- Settles O19: SPI_RX's decode table reads the capture pulse alone. -/
theorem spiReceiveRegisterAndClockDelay : Obligations.SpiReceiveRegisterAndClockDelay := by
  intro s
  rw [operation_spiRx]
  refine ⟨?_, ?_, ?_, ?_, ⟨_, rfl, rfl, fun hw => shiftIn_testBit_zero hw _ _,
    shiftIn_testBit_succ _ _ _⟩, ⟨_, rfl, rfl⟩, operation_spiDly s, ⟨_, rfl, rfl, ?_, ?_⟩⟩
  · cases s.cap <;> simp
  · cases s.cap <;> simp
  · rw [State.cap]
    cases s.cfg.captureEdge with
    | rise => exact rise_iff s
    | fall => exact fall_iff s
  · rw [State.shp]
    cases s.cfg.captureEdge with
    | rise => exact fall_iff s
    | fall => exact rise_iff s
  · simp [State.rise]
  · simp [State.fall]

/-! ### A step of the SpiMaster's registers -/

section StepSpi

variable {s t : State}

/-- All that a step without RESET does to the SpiMaster's registers (R122, R137 to R143). -/
theorem step_spi (h : step s = .next t) (hr : s.inp.rst = false) :
    t.ctl = nextCtl s.cfg s.inp.en s.ctl ∧ t.tx = nextTx s ∧ t.rx = nextRx s ∧
      t.sclkQ = s.ctl.sclk := by
  obtain ⟨-, ⟨hrst, -⟩ | ⟨-, rfl⟩⟩ := step_next h
  · exact absurd (hr.symm.trans hrst) Bool.false_ne_true
  · rw [State.advance_ctl, State.advance_tx, State.advance_rx, State.advance_sclkQ, committed_ctl,
      committed_tx, committed_rx, committed_sclkQ]
    exact ⟨rfl, rfl, rfl, rfl⟩

/-- All that a step with RESET does to the SpiMaster's registers (R260). -/
theorem step_spi_of_rst (h : step s = .next t) (hr : s.inp.rst = true) :
    t.ctl = spiRest s.cfg .idle ∧ t.tx = 0 ∧ t.rx = 0 ∧ t.sclkQ = false := by
  obtain ⟨-, ⟨-, rfl⟩ | ⟨hrst, -⟩⟩ := step_next h
  · rw [State.advance_ctl, State.advance_tx, State.advance_rx, State.advance_sclkQ]
    exact ⟨rfl, rfl, rfl, rfl⟩
  · exact absurd (hrst.symm.trans hr) Bool.false_ne_true

theorem nextCtl_of_transfer {c : Config} {r : SpiCtl} (en en' : Bool) (h : r.state = .transfer) :
    nextCtl c en r = nextCtl c en' r := by
  simp only [nextCtl, h]

theorem nextTx_of_transfer (h : s.ctl.state = .transfer) :
    nextTx s = if s.shp then shiftIn s.cfg.spiW s.tx false else s.tx := by
  rw [nextTx, start_eq_false_of_transfer h, if_neg Bool.false_ne_true]

/-- Of the inputs the next `rx` reads `miso` alone (R141). -/
theorem nextRx_drive (s : State) {i : Inputs} (h : i.miso = s.inp.miso) :
    nextRx (s.drive i) = nextRx s := by
  simp only [nextRx, State.inMiso, State.drive_inp, h]
  rfl

end StepSpi

/-- Settles O41: in TRANSFER neither SPI_CTL's nor SPI_TX's priorities look at a request. -/
theorem requestsWhileBusyLeaveNoTrace : Obligations.RequestsWhileBusyLeaveNoTrace := by
  intro s t t' i hbusy hrst hmiso h h'
  cases hr : s.inp.rst with
  | true =>
    obtain ⟨hctl, htx, hrx, hq⟩ := step_spi_of_rst h hr
    obtain ⟨hctl', htx', hrx', hq'⟩ := step_spi_of_rst h' (hrst.trans hr)
    exact ⟨hctl'.trans hctl.symm, htx'.trans htx.symm, hrx'.trans hrx.symm, hq'.trans hq.symm⟩
  | false =>
    obtain ⟨hctl, htx, hrx, hq⟩ := step_spi h hr
    obtain ⟨hctl', htx', hrx', hq'⟩ := step_spi h' (hrst.trans hr)
    refine ⟨?_, ?_, ?_, hq'.trans hq.symm⟩
    · rw [hctl, hctl']
      exact nextCtl_of_transfer _ _ hbusy
    · rw [htx, htx', nextTx_of_transfer hbusy]
      exact nextTx_of_transfer (s := s.drive i) hbusy
    · rw [hrx, hrx', nextRx_drive s hmiso]

end Sys2Proof.Machine

/-! The SpiMaster through a transfer (41_spi_master.md R145, R149, R151): its registers as functions
of the number of cycles since the transfer began. -/

namespace Sys2Proof.Machine

/-! ### Runs in two stretches -/

theorem After.trans {s t : State} {j k : Nat} {P : State → Prop} (h : runFor j s = .next t)
    (hP : After t k P) : After s (j + k) P := by
  obtain ⟨u, hu, hp⟩ := hP
  exact ⟨u, (runFor_add k h).trans hu, hp⟩

theorem After.mono {s : State} {k : Nat} {P Q : State → Prop} (h : After s k P)
    (hPQ : ∀ t, P t → Q t) : After s k Q := by
  obtain ⟨t, ht, hp⟩ := h
  exact ⟨t, ht, hPQ t hp⟩

theorem runFor_one {s t : State} (h : step s = .next t) : runFor 1 s = .next t :=
  runFor_succ 0 h

theorem runFor_cfg {s t : State} {k : Nat} (h : runFor k s = .next t) : t.cfg = s.cfg := by
  induction k generalizing s with
  | zero => cases h; rfl
  | succ k ih =>
    obtain ⟨u, hu, hr⟩ := runFor_succ_next h
    exact (ih hr).trans (step_cfg hu)

theorem runFor_inputsAt {s t : State} {k : Nat} (h : runFor k s = .next t) (j : Nat) :
    t.inputsAt j = s.inputsAt (k + j) := by
  induction k generalizing s with
  | zero => cases h; rw [Nat.zero_add]
  | succ k ih =>
    obtain ⟨u, hu, hr⟩ := runFor_succ_next h
    rw [ih hr, step_inputsAt hu, Nat.add_right_comm]

/-! ### Counting half periods -/

theorem spiHalf_pos (c : Config) : 0 < c.spiHalf := Nat.succ_pos _

/-- Within a half period of `h` cycles a cycle passes, or the half period ends. -/
theorem div_mod_succ {h : Nat} (hh : 0 < h) (m : Nat) :
    (m % h + 1 < h ∧ (m + 1) / h = m / h ∧ (m + 1) % h = m % h + 1) ∨
      (m % h + 1 = h ∧ (m + 1) / h = m / h + 1 ∧ (m + 1) % h = 0) := by
  have hm := Nat.mod_add_div m h
  obtain hlt | heq := Nat.lt_or_eq_of_le (Nat.succ_le_of_lt (Nat.mod_lt m hh))
  · exact .inl ⟨hlt, (Nat.div_mod_unique hh).2 ⟨by omega, hlt⟩⟩
  · exact .inr ⟨heq, (Nat.div_mod_unique hh).2 ⟨by rw [Nat.mul_succ]; omega, hh⟩⟩

/-- The level of the bus clock `m` cycles after the first of a transfer: low in the half periods of
even number (R145). -/
def clockAfter (c : Config) (m : Nat) : Bool := decide (m / c.spiHalf % 2 = 1)

/-- SPI_CTL's registers `m` cycles after the first of a transfer, `m` up to `2*W*H` (R145). -/
def ctlAfter (c : Config) (m : Nat) : SpiCtl :=
  { state := if m < 2 * c.spiW * c.spiHalf then .transfer else .idle
    div := c.spiDiv - m % c.spiHalf
    edges := 2 * c.spiW - m / c.spiHalf
    sclk := clockAfter c m }

theorem ctlAfter_state_of_lt {c : Config} {m : Nat} (h : m < 2 * c.spiW * c.spiHalf) :
    (ctlAfter c m).state = .transfer := if_pos h

theorem ctlAfter_end_state (c : Config) :
    (ctlAfter c (2 * c.spiW * c.spiHalf)).state = .idle := if_neg (lt_irrefl _)

theorem clockAfter_end (c : Config) : clockAfter c (2 * c.spiW * c.spiHalf) = false := by
  simp [clockAfter, Nat.mul_div_cancel _ (spiHalf_pos c)]

theorem clockAfter_zero (c : Config) : clockAfter c 0 = false := by simp [clockAfter]

/-- SPI_START's commit leaves what the first cycle of a transfer begins with (R131). -/
theorem ctlAfter_zero {c : Config} (hw : 1 ≤ c.spiW) : ctlAfter c 0 = spiRest c .transfer := by
  have hlen : 0 < 2 * c.spiW * c.spiHalf := by have := spiHalf_pos c; positivity
  simp [ctlAfter, spiRest, Config.spiEdges, clockAfter_zero, hlen]

/-- Cycle `m` of a run of `n` half periods is in one of those half periods. -/
theorem lt_mul_spiHalf_iff (c : Config) (m n : Nat) : m < n * c.spiHalf ↔ m / c.spiHalf < n :=
  (Nat.div_lt_iff_lt_mul (spiHalf_pos c)).symm

/-- SPI_CTL in TRANSFER goes from each cycle's registers to the next cycle's, whatever is on `en`
(R132 to R134). -/
theorem nextCtl_ctlAfter {c : Config} {m : Nat} (en : Bool) (hm : m < 2 * c.spiW * c.spiHalf) :
    nextCtl c en (ctlAfter c m) = ctlAfter c (m + 1) := by
  have hbusy := ctlAfter_state_of_lt hm
  have hq := (lt_mul_spiHalf_iff c m _).1 hm
  have hhalf : c.spiHalf = c.spiDiv + 1 := rfl
  obtain ⟨hr, hdiv, hmod⟩ | ⟨hr, hdiv, hmod⟩ := div_mod_succ (spiHalf_pos c) m
  · have hd : (ctlAfter c m).div ≠ 0 := by dsimp only [ctlAfter]; omega
    rw [nextCtl_of_wait en hbusy hd, decAt_eq (Nat.one_le_iff_ne_zero.2 hd)
      (div_lt_width c (Nat.sub_le _ _))]
    simp only [ctlAfter, clockAfter, lt_mul_spiHalf_iff, hdiv, hmod, Nat.sub_sub]
  · have hd : (ctlAfter c m).div = 0 := by dsimp only [ctlAfter]; omega
    have hclock : clockAfter c (m + 1) = !clockAfter c m := by
      rw [clockAfter, clockAfter, hdiv, ← decide_not]
      exact decide_eq_decide.2 (by omega)
    by_cases hlast : m / c.spiHalf + 1 = 2 * c.spiW
    · have he : (ctlAfter c m).edges = 1 := by dsimp only [ctlAfter]; omega
      rw [nextCtl_of_lastToggle en hbusy hd he]
      simp only [ctlAfter, lt_mul_spiHalf_iff, hclock, hdiv, hmod, hlast, lt_irrefl, if_false,
        Nat.sub_zero, Nat.sub_self]
    · have he : (ctlAfter c m).edges ≠ 1 ∧ 1 ≤ (ctlAfter c m).edges := by
        dsimp only [ctlAfter]; omega
      have hmore : m / c.spiHalf + 1 < 2 * c.spiW := by omega
      rw [nextCtl_of_toggle en hbusy hd he.1, decAt_eq he.2 (edges_lt_width c (Nat.sub_le _ _))]
      simp only [ctlAfter, lt_mul_spiHalf_iff, hclock, hdiv, hmod, hq, hmore, if_true,
        Nat.sub_zero, Nat.sub_sub]

/-! ### SPI_CTL as a counter of the cycles of a transfer -/

/-- SPI_CTL's registers in IDLE (`k = 0`) or in cycle `k` of a transfer, counted from 1. -/
def CtlAt (c : Config) : Nat → SpiCtl → Prop
  | 0, r => r.state = .idle
  | m + 1, r => r = ctlAfter c m

/-- The cycle of a transfer that follows cycle `k`, and cycle 1 an accepted request (R151). -/
def nextProgress (c : Config) (en : Bool) : Nat → Nat
  | 0 => en.toNat
  | m + 1 => if m + 1 < 2 * c.spiW * c.spiHalf then m + 2 else 0

theorem ctlAt_nextCtl {c : Config} {k : Nat} {r : SpiCtl} (en : Bool) (hw : 1 ≤ c.spiW)
    (hk : k ≤ 2 * c.spiW * c.spiHalf) (h : CtlAt c k r) :
    CtlAt c (nextProgress c en k) (nextCtl c en r) := by
  cases k with
  | zero =>
    rw [nextCtl_of_idle en h]
    cases en with
    | false => exact rfl
    | true => exact (ctlAfter_zero hw).symm
  | succ m =>
    have hr : r = ctlAfter c m := h
    rw [hr, nextCtl_ctlAfter en hk, nextProgress]
    split_ifs with hgo
    · exact rfl
    · rw [show m + 1 = 2 * c.spiW * c.spiHalf by omega]
      exact ctlAfter_end_state c

theorem idle_iff_of_ctlAt {c : Config} {k : Nat} {r : SpiCtl} (hk : k ≤ 2 * c.spiW * c.spiHalf)
    (h : CtlAt c k r) : r.state = .idle ↔ k = 0 := by
  cases k with
  | zero => exact iff_of_true h rfl
  | succ m =>
    have hr : r = ctlAfter c m := h
    rw [hr, ctlAfter_state_of_lt hk]
    exact iff_of_false nofun nofun

theorem transfer_iff_of_ctlAt {c : Config} {k : Nat} {r : SpiCtl}
    (hk : k ≤ 2 * c.spiW * c.spiHalf) (h : CtlAt c k r) : r.state = .transfer ↔ k ≠ 0 := by
  rw [Ne, ← idle_iff_of_ctlAt hk h]
  cases r.state <;> simp

theorem transferLength_pos {c : Config} (hw : c.wellFormed = true) :
    0 < 2 * c.spiW * c.spiHalf := by
  obtain ⟨hspiW, -⟩ := (wellFormed_iff c).1 hw
  have := spiHalf_pos c
  positivity

/-- The progress in cycle `k` of a run with one request, in cycle 0. -/
def onceProgress (c : Config) (k : Nat) : Nat := if k ≤ 2 * c.spiW * c.spiHalf then k else 0

theorem onceProgress_le (c : Config) (k : Nat) : onceProgress c k ≤ 2 * c.spiW * c.spiHalf := by
  unfold onceProgress; split_ifs <;> omega

theorem onceProgress_ne_zero_iff (c : Config) (k : Nat) :
    onceProgress c k ≠ 0 ↔ 1 ≤ k ∧ k ≤ 2 * c.spiW * c.spiHalf := by
  unfold onceProgress; split_ifs <;> omega

theorem nextProgress_onceProgress {c : Config} {en : Bool} {k : Nat} (h0 : k = 0 → en = true)
    (hend : 2 * c.spiW * c.spiHalf + 1 ≤ k → en = false) (hlen : 0 < 2 * c.spiW * c.spiHalf) :
    nextProgress c en (onceProgress c k) = onceProgress c (k + 1) := by
  unfold onceProgress
  cases k with
  | zero => simp [nextProgress, h0 rfl, Nat.succ_le_of_lt hlen]
  | succ m =>
    by_cases hm : m + 1 ≤ 2 * c.spiW * c.spiHalf
    · rw [if_pos hm, nextProgress]; rfl
    · rw [if_neg hm, if_neg (by omega), nextProgress, hend (by omega)]; rfl

/-- With a request in every IDLE cycle the progress is the cycle's number modulo `2*W*H + 1`. -/
theorem nextProgress_mod {c : Config} (k : Nat) (hlen : 0 < 2 * c.spiW * c.spiHalf) :
    nextProgress c true (k % (2 * c.spiW * c.spiHalf + 1)) =
      (k + 1) % (2 * c.spiW * c.spiHalf + 1) := by
  obtain ⟨hlt, -, hmod⟩ | ⟨heq, -, hmod⟩ :=
    div_mod_succ (h := 2 * c.spiW * c.spiHalf + 1) (Nat.succ_pos _) k
  · rw [hmod]
    cases hi : k % (2 * c.spiW * c.spiHalf + 1) with
    | zero => rfl
    | succ m => rw [nextProgress, if_pos (by omega)]
  · rw [hmod, Nat.succ_injective heq]
    obtain ⟨m, hm⟩ := Nat.exists_eq_succ_of_ne_zero hlen.ne'
    rw [hm, nextProgress, if_neg (by omega)]

/-- Settles O36: the progress counter runs once through `2*W*H` cycles and stays at 0. -/
theorem spiBusyForExactlyTwoWidthTimesHalfPeriod :
    Obligations.SpiBusyForExactlyTwoWidthTimesHalfPeriod := by
  intro s hw hidle hen n hr hquiet k hk
  obtain ⟨hspiW, -⟩ := (wellFormed_iff s.cfg).1 hw
  have hrun : After s k (fun t => CtlAt s.cfg (onceProgress s.cfg k) t.ctl) := by
    refine after_induction (I := fun k t => CtlAt s.cfg (onceProgress s.cfg k) t.ctl) hw hidle
      ?_ k hk
    intro k t u hk hcfg hinp hstep ht
    obtain ⟨hctl, -⟩ := step_spi hstep (hinp ▸ hr k hk)
    rw [hctl, hcfg, hinp, ← nextProgress_onceProgress ?_ (fun hlate => hquiet k hlate hk)
      (transferLength_pos hw)]
    · exact ctlAt_nextCtl _ hspiW (onceProgress_le _ k) ht
    · rintro rfl
      exact hen
  refine hrun.mono fun t ht => ?_
  have hbusy : t.spiBusy = decide (1 ≤ k ∧ k ≤ 2 * s.cfg.spiW * s.cfg.spiHalf) := by
    rw [Bool.eq_iff_iff, spiBusy_iff, transfer_iff_of_ctlAt (onceProgress_le _ k) ht,
      decide_eq_true_eq, onceProgress_ne_zero_iff]
  exact congrArg not hbusy

/-- Settles O40: with `en = 1` the progress counter counts modulo `2*W*H + 1`. -/
theorem heldRequestGivesBackToBackTransfers :
    Obligations.HeldRequestGivesBackToBackTransfers := by
  intro s hw hidle n hr hen k hk
  obtain ⟨hspiW, -⟩ := (wellFormed_iff s.cfg).1 hw
  have hbound (k : Nat) : k % (2 * s.cfg.spiW * s.cfg.spiHalf + 1) ≤
      2 * s.cfg.spiW * s.cfg.spiHalf := Nat.le_of_lt_succ (Nat.mod_lt _ (Nat.succ_pos _))
  obtain ⟨t, hrun, ht⟩ := after_induction
    (I := fun k t => CtlAt s.cfg (k % (2 * s.cfg.spiW * s.cfg.spiHalf + 1)) t.ctl)
    (n := n) hw hidle (by
      intro k t u hk hcfg hinp hstep ht
      obtain ⟨hctl, -⟩ := step_spi hstep (hinp ▸ hr k hk)
      rw [hctl, hcfg, hinp, hen k hk.le, ← nextProgress_mod k (transferLength_pos hw)]
      exact ctlAt_nextCtl true hspiW (hbound k) ht) k hk
  have hidle_iff := idle_iff_of_ctlAt (hbound k) ht
  have hent : t.inp.en = true := by
    rw [← inputsAt_zero t, runFor_inputsAt hrun]; exact hen k hk
  refine ⟨t, hrun, ?_, hidle_iff, ?_⟩
  · obtain ⟨-, hstart, -⟩ := spiIdleAndStart t
    rw [hstart, ← hidle_iff]
    exact and_iff_left hent
  · have hbusy : t.spiBusy = !decide (k % (2 * s.cfg.spiW * s.cfg.spiHalf + 1) = 0) := by
      rw [Bool.eq_iff_iff, spiBusy_iff, transfer_iff_of_ctlAt (hbound k) ht]; simp
    rw [← hbusy, ← runFor_cfg hrun]
    rfl

end Sys2Proof.Machine

/-! The pulses of a transfer and the registers that shift on them (41_spi_master.md R145 to R148,
R154). -/

namespace Sys2Proof.Machine

/-! ### The cycles of the pulses -/

/-- The toggle of the bus clock, counted from 1 in a transfer, that pulse `j` of an edge announces:
the odd ones raise it (R133). -/
def toggleOf : Edge → Nat → Nat
  | .rise, j => 2 * j - 1
  | .fall, j => 2 * j

/-- How many pulses of an edge the first `q` toggles make. -/
def pulsesOf : Edge → Nat → Nat
  | .rise, q => (q + 1) / 2
  | .fall, q => q / 2

theorem toggleOf_lt (e : Edge) {i j : Nat} (h : i < j) : toggleOf e i < toggleOf e j := by
  cases e <;> simp only [toggleOf] <;> omega

theorem pulsesOf_eq {e : Edge} {q j : Nat} (hlo : toggleOf e j ≤ q)
    (hhi : q < toggleOf e (j + 1)) : pulsesOf e q = j := by
  cases e <;> simp only [toggleOf, pulsesOf] at * <;> omega

/-- The next toggle makes a pulse of the edge, or leaves the count as it is. -/
theorem pulsesOf_succ (e : Edge) (q : Nat) :
    pulsesOf e (q + 1) =
      if toggleOf e (pulsesOf e q + 1) = q + 1 then pulsesOf e q + 1 else pulsesOf e q := by
  split <;> cases e <;> simp only [toggleOf, pulsesOf] at * <;> omega

/-- After an even number of toggles the bus clock is low and its next toggle a rise. -/
theorem toggleOf_rise_iff (q : Nat) :
    toggleOf .rise (pulsesOf .rise q + 1) = q + 1 ↔ q % 2 = 0 := by
  simp only [toggleOf, pulsesOf]; omega

/-- After an odd number of toggles the bus clock is high and its next toggle a fall. -/
theorem toggleOf_fall_iff (q : Nat) :
    toggleOf .fall (pulsesOf .fall q + 1) = q + 1 ↔ q % 2 = 1 := by
  simp only [toggleOf, pulsesOf]; omega

/-- The cycle of pulse `j` of an edge in a transfer accepted in cycle 0 (R145). -/
def pulseCycle (c : Config) (e : Edge) (j : Nat) : Nat := toggleOf e j * c.spiHalf + 1

theorem captureCycle_eq (c : Config) (j : Nat) :
    captureCycle c j = pulseCycle c c.captureEdge j := by
  unfold captureCycle
  cases c.captureEdge <;> rfl

theorem pulseCycle_lt_iff (c : Config) (e e' : Edge) (i j : Nat) :
    pulseCycle c e i < pulseCycle c e' j ↔ toggleOf e i < toggleOf e' j := by
  rw [pulseCycle, pulseCycle, Nat.succ_lt_succ_iff, Nat.mul_lt_mul_right (spiHalf_pos c)]

theorem pulseCycle_lt (c : Config) (e : Edge) {i j : Nat} (h : i < j) :
    pulseCycle c e i < pulseCycle c e j :=
  (pulseCycle_lt_iff c e e i j).2 (toggleOf_lt e h)

theorem pulseCycle_le_iff (c : Config) (e : Edge) (j : Nat) :
    pulseCycle c e j ≤ 2 * c.spiW * c.spiHalf + 1 ↔ j ≤ c.spiW := by
  rw [pulseCycle, Nat.succ_le_succ_iff, Nat.mul_le_mul_right_iff (spiHalf_pos c)]
  cases e <;> simp only [toggleOf] <;> omega

/-- How many pulses of an edge come in the cycles 1 to `m` of a transfer accepted in cycle 0. -/
def pulsesBefore (c : Config) (e : Edge) (m : Nat) : Nat := pulsesOf e ((m - 1) / c.spiHalf)

theorem pulsesBefore_zero (c : Config) (e : Edge) : pulsesBefore c e 0 = 0 := by
  cases e <;> simp [pulsesBefore, pulsesOf]

/-- From the cycle after pulse `j` to the cycle of pulse `j + 1` the count is `j`. -/
theorem pulsesBefore_eq {c : Config} {e : Edge} {m j : Nat} (hlo : j = 0 ∨ pulseCycle c e j ≤ m)
    (hhi : m < pulseCycle c e (j + 1)) : pulsesBefore c e m = j := by
  have hpos : 0 < toggleOf e (j + 1) * c.spiHalf :=
    Nat.mul_pos ((Nat.zero_le _).trans_lt (toggleOf_lt e j.succ_pos)) (spiHalf_pos c)
  refine pulsesOf_eq ?_ ?_
  · rw [Nat.le_div_iff_mul_le (spiHalf_pos c)]
    obtain rfl | hlo := hlo
    · cases e <;> simp [toggleOf]
    · exact Nat.le_sub_one_of_lt hlo
  · rw [← lt_mul_spiHalf_iff]
    have : m ≤ toggleOf e (j + 1) * c.spiHalf := Nat.le_of_lt_succ hhi
    omega

/-- Either no half period ends with cycle `m`, or the bus clock's next toggle follows it. -/
theorem half_period_cases (c : Config) (m : Nat) :
    (m / c.spiHalf = (m - 1) / c.spiHalf ∧ ∀ n, 1 ≤ n → m ≠ n * c.spiHalf) ∨
      (m / c.spiHalf = (m - 1) / c.spiHalf + 1 ∧
        ∀ n, m = n * c.spiHalf ↔ n = (m - 1) / c.spiHalf + 1) := by
  have hh := spiHalf_pos c
  cases m with
  | zero => exact .inl ⟨rfl, fun n hn => (Nat.mul_pos hn hh).ne⟩
  | succ a =>
    rw [Nat.add_sub_cancel]
    obtain ⟨-, hdiv, hmod⟩ | ⟨-, hdiv, hmod⟩ := div_mod_succ hh a
    · refine .inl ⟨hdiv, fun n _ hn => ?_⟩
      rw [hn, Nat.mul_mod_left] at hmod
      exact Nat.succ_ne_zero _ hmod.symm
    · refine .inr ⟨hdiv, fun n => ?_⟩
      have hm : a + 1 = (a / c.spiHalf + 1) * c.spiHalf := by
        rw [← hdiv, Nat.div_mul_cancel (Nat.dvd_of_mod_eq_zero hmod)]
      rw [hm, Nat.mul_right_cancel_iff hh, eq_comm]

/-- The count goes up with the cycle of the next pulse. -/
theorem pulsesBefore_succ (c : Config) (e : Edge) (m : Nat) :
    pulsesBefore c e (m + 1) =
      if m + 1 = pulseCycle c e (pulsesBefore c e m + 1) then pulsesBefore c e m + 1
      else pulsesBefore c e m := by
  simp only [pulsesBefore, pulseCycle, Nat.add_sub_cancel, Nat.add_right_cancel_iff]
  obtain ⟨hdiv, hne⟩ | ⟨hdiv, heq⟩ := half_period_cases c m
  · rw [hdiv, if_neg (hne _ (Nat.zero_lt_of_lt (toggleOf_lt e (Nat.lt_succ_self _))))]
  · simp only [hdiv, heq, pulsesOf_succ]

/-! ### The bus in a cycle of a transfer -/

/-- The bus `m` cycles after the first of a transfer, `m` up to `2*W*H`. -/
structure BusAt (c : Config) (m : Nat) (t : State) : Prop where
  cfg : t.cfg = c
  ctl : t.ctl = ctlAfter c m
  sclkQ : t.sclkQ = clockAfter c (m - 1)

/-- What the statements about a transfer ask of cycle 0: a request in IDLE with the bus clock low,
under legal parameters. -/
structure Accepts (s : State) : Prop where
  wellFormed : s.cfg.wellFormed = true
  idle : s.ctl.state = .idle
  low : s.ctl.sclk = false
  en : s.inp.en = true

/-- The request begins a transfer (R131). -/
theorem busAt_zero {s t : State} (hs : Accepts s) (hr : s.inp.rst = false)
    (h : step s = .next t) : BusAt s.cfg 0 t := by
  obtain ⟨hspiW, -⟩ := (wellFormed_iff s.cfg).1 hs.wellFormed
  obtain ⟨hctl, -, -, hq⟩ := step_spi h hr
  refine ⟨step_cfg h, ?_, ?_⟩
  · rw [hctl, hs.en, nextCtl_of_idle _ hs.idle, ctlAfter_zero hspiW]; rfl
  · rw [hq, hs.low, Nat.zero_sub, clockAfter_zero]

theorem busAt_succ {c : Config} {m : Nat} {t u : State} (hm : m < 2 * c.spiW * c.spiHalf)
    (ht : BusAt c m t) (hr : t.inp.rst = false) (h : step t = .next u) : BusAt c (m + 1) u := by
  obtain ⟨hctl, -, -, hq⟩ := step_spi h hr
  refine ⟨(step_cfg h).trans ht.cfg, ?_, ?_⟩
  · rw [hctl, ht.cfg, ht.ctl, nextCtl_ctlAfter _ hm]
  · rw [hq, ht.ctl]; rfl

/-- An edge pulse is 1 exactly in the cycle of that edge's next pulse. -/
theorem pulse_iff_of_busAt {c : Config} {m : Nat} {t : State} (ht : BusAt c m t) (e : Edge) :
    t.pulse e = true ↔ m + 1 = pulseCycle c e (pulsesBefore c e m + 1) := by
  have hclock : t.ctl.sclk = clockAfter c m := congrArg SpiCtl.sclk ht.ctl
  rw [pulseCycle, Nat.add_right_cancel_iff, pulsesBefore]
  obtain ⟨hdiv, hne⟩ | ⟨hdiv, heq⟩ := half_period_cases c m
  · refine iff_of_false ?_ (hne _ (Nat.zero_lt_of_lt (toggleOf_lt e (Nat.lt_succ_self _))))
    have hsame : t.ctl.sclk = t.sclkQ := by rw [hclock, ht.sclkQ, clockAfter, hdiv, clockAfter]
    cases e <;> simp [State.pulse, State.rise, State.fall, hsame]
  · rw [heq]
    cases e with
    | rise =>
      rw [toggleOf_rise_iff, State.pulse, rise_iff, hclock, ht.sclkQ, clockAfter, clockAfter, hdiv,
        decide_eq_true_eq, decide_eq_false_iff_not]
      generalize (m - 1) / c.spiHalf = q
      omega
    | fall =>
      rw [toggleOf_fall_iff, State.pulse, fall_iff, hclock, ht.sclkQ, clockAfter, clockAfter, hdiv,
        decide_eq_true_eq, decide_eq_false_iff_not]
      generalize (m - 1) / c.spiHalf = q
      omega

/-- The pulses of a transfer are the pulses 1 to `W` of each edge (R145). -/
theorem pulse_iff_exists_of_busAt {c : Config} {m : Nat} {t : State} (ht : BusAt c m t)
    (hm : m ≤ 2 * c.spiW * c.spiHalf) (e : Edge) :
    t.pulse e = true ↔ ∃ j, 1 ≤ j ∧ j ≤ c.spiW ∧ m + 1 = pulseCycle c e j := by
  rw [pulse_iff_of_busAt ht]
  constructor
  · intro h
    exact ⟨_, Nat.succ_pos _, (pulseCycle_le_iff c e _).1 (h ▸ Nat.succ_le_succ hm), h⟩
  · rintro ⟨j, hj, -, h⟩
    obtain ⟨i, rfl⟩ := Nat.exists_eq_add_of_le' hj
    have hcycle := pulseCycle_lt c e (Nat.lt_succ_self i)
    rwa [pulsesBefore_eq (.inr (Nat.le_of_lt_succ (h ▸ hcycle))) (h ▸ Nat.lt_succ_self m)]

/-- The bus clock is high in the second half of each of its `W` periods (R145). -/
theorem clockAfter_iff {c : Config} {m : Nat} (hm : m ≤ 2 * c.spiW * c.spiHalf) :
    clockAfter c m = true ↔ ∃ j, 1 ≤ j ∧ j ≤ c.spiW ∧
      (2 * j - 1) * c.spiHalf + 1 ≤ m + 1 ∧ m + 1 ≤ 2 * j * c.spiHalf := by
  have hq : m / c.spiHalf ≤ 2 * c.spiW := Nat.div_le_of_le_mul (by rwa [mul_comm] at hm)
  simp only [clockAfter, decide_eq_true_eq, Nat.succ_le_succ_iff, Nat.succ_le_iff,
    lt_mul_spiHalf_iff, ← Nat.le_div_iff_mul_le (spiHalf_pos c)]
  generalize m / c.spiHalf = q at hq ⊢
  constructor
  · intro hodd
    exact ⟨(q + 1) / 2, by omega, by omega, by omega, by omega⟩
  · rintro ⟨j, hj, -, hlo, hhi⟩
    omega

/-! ### Registers that shift on a pulse -/

/-- A register of `w` bits that held `v`, after the bits `bits 1` to `bits p` were shifted in. -/
def shiftedIn (w v : Nat) (bits : Nat → Bool) : Nat → Nat
  | 0 => v
  | p + 1 => shiftIn w (shiftedIn w v bits p) (bits (p + 1))

theorem shiftedIn_lt {w v : Nat} (bits : Nat → Bool) {p : Nat} (hp : p ≠ 0) :
    shiftedIn w v bits p < 2 ^ w := by
  obtain ⟨p, rfl⟩ := Nat.exists_eq_succ_of_ne_zero hp
  exact shiftIn_lt w _ _

/-- The last bits are the low ones, and the former value stands above them (R138, R141). -/
theorem shiftedIn_testBit {w v : Nat} (bits : Nat → Bool) {b : Nat} (hb : b < w) (p : Nat) :
    (shiftedIn w v bits p).testBit b = if b < p then bits (p - b) else v.testBit (b - p) := by
  induction p generalizing b with
  | zero => rfl
  | succ p ih =>
    cases b with
    | zero => rw [shiftedIn, shiftIn_testBit_zero hb, if_pos p.succ_pos]; rfl
    | succ b =>
      rw [shiftedIn, shiftIn_testBit_succ, decide_eq_true hb, Bool.true_and,
        ih (Nat.lt_of_succ_lt hb), Nat.add_sub_add_right, Nat.add_sub_add_right]
      simp only [Nat.add_lt_add_iff_right]

/-- A register that shifts on the pulses of an edge takes in that pulse's bit. -/
theorem shiftedIn_pulsesBefore_succ {c : Config} {m : Nat} {t : State} (ht : BusAt c m t)
    (e : Edge) {w v : Nat} {bits : Nat → Bool} {b : Bool}
    (hb : ∀ j, m + 1 = pulseCycle c e j → b = bits j) :
    (if t.pulse e then shiftIn w (shiftedIn w v bits (pulsesBefore c e m)) b
      else shiftedIn w v bits (pulsesBefore c e m)) =
      shiftedIn w v bits (pulsesBefore c e (m + 1)) := by
  simp only [pulse_iff_of_busAt ht, pulsesBefore_succ]
  split_ifs with h
  · rw [hb _ h]; rfl
  · rfl

/-! ### The SpiMaster in a cycle of a transfer -/

/-- What capture `j` of a transfer accepted in `s` samples from `miso` (R147). -/
def State.sample (s : State) (j : Nat) : Bool := (s.inputsAt (captureCycle s.cfg j)).miso

/-- `rx` after `p` captures of a transfer accepted in `s`. -/
def State.rxAfter (s : State) (p : Nat) : Nat := shiftedIn s.cfg.spiW (nextRx s) s.sample p

/-- The SpiMaster `m` cycles after the first of a transfer accepted in `s`. -/
structure TransferAt (s : State) (m : Nat) (t : State) : Prop where
  bus : BusAt s.cfg m t
  tx : t.tx = shiftedIn s.cfg.spiW s.inCmd (fun _ => false) (pulsesBefore s.cfg s.cfg.shiftEdge m)
  rx : t.rx = s.rxAfter (pulsesBefore s.cfg s.cfg.captureEdge m)

theorem transferAt_zero {s t : State} (hs : Accepts s) (hr : s.inp.rst = false)
    (h : step s = .next t) : TransferAt s 0 t := by
  obtain ⟨-, htx, hrx, -⟩ := step_spi h hr
  refine ⟨busAt_zero hs hr h, ?_, ?_⟩
  · rw [htx, nextTx, if_pos ((start_iff s).2 ⟨hs.idle, hs.en⟩), pulsesBefore_zero]; rfl
  · rw [hrx, pulsesBefore_zero]; rfl

/-- The captures go on in the first IDLE cycle after the transfer (R141). -/
theorem rx_succ_of_transferAt {s t u : State} {m : Nat} (ht : TransferAt s m t)
    (hinp : t.inp = s.inputsAt (m + 1)) (hr : t.inp.rst = false) (h : step t = .next u) :
    u.rx = s.rxAfter (pulsesBefore s.cfg s.cfg.captureEdge (m + 1)) := by
  obtain ⟨-, -, hrx, -⟩ := step_spi h hr
  rw [hrx, nextRx, cap_eq_pulse, ht.bus.cfg, ht.rx]
  refine shiftedIn_pulsesBefore_succ ht.bus _ fun j hj => ?_
  rw [State.inMiso, hinp, State.sample, captureCycle_eq, ← hj]

theorem transferAt_succ {s t u : State} {m : Nat} (hm : m < 2 * s.cfg.spiW * s.cfg.spiHalf)
    (ht : TransferAt s m t) (hinp : t.inp = s.inputsAt (m + 1)) (hr : t.inp.rst = false)
    (h : step t = .next u) : TransferAt s (m + 1) u := by
  obtain ⟨-, htx, -, -⟩ := step_spi h hr
  have hbusy : t.ctl.state = .transfer := by rw [ht.bus.ctl, ctlAfter_state_of_lt hm]
  refine ⟨busAt_succ hm ht.bus hr h, ?_, rx_succ_of_transferAt ht hinp hr h⟩
  rw [htx, nextTx_of_transfer hbusy, shp_eq_pulse, ht.bus.cfg, ht.tx]
  exact shiftedIn_pulsesBefore_succ ht.bus _ fun _ _ => rfl

/-! ### The run of a transfer -/

theorem after_transferAt {s : State} {m : Nat} (hs : Accepts s) (hr : NoReset s (m + 1))
    (hm : m ≤ 2 * s.cfg.spiW * s.cfg.spiHalf) : After s (m + 1) (TransferAt s m) := by
  obtain ⟨t, ht⟩ := step_total hs.wellFormed
  have hinputs := step_inputsAt ht
  have hfirst : TransferAt s 0 t := transferAt_zero hs (hr 0 m.succ_pos) ht
  have hrun : After t m (TransferAt s m) := by
    refine after_induction (I := TransferAt s) (step_cfg ht ▸ hs.wellFormed) hfirst ?_ m le_rfl
    intro k u v hk _ hinp hstep hu
    rw [hinputs] at hinp
    exact transferAt_succ (hk.trans_le hm) hu hinp (hinp ▸ hr _ (Nat.succ_lt_succ hk)) hstep
  rw [Nat.add_comm]
  exact .trans (runFor_one ht) hrun

/-- The same, with the cycle's own number. -/
theorem after_transferAt_of_pos {s : State} {k : Nat} (hs : Accepts s) (hr : NoReset s k)
    (hpos : 1 ≤ k) (hk : k ≤ 2 * s.cfg.spiW * s.cfg.spiHalf + 1) :
    After s k (TransferAt s (k - 1)) := by
  obtain ⟨m, rfl⟩ := Nat.exists_eq_add_of_le' hpos
  exact after_transferAt hs hr (Nat.le_of_succ_le_succ hk)

theorem NoReset.mono {s : State} {m n : Nat} (h : NoReset s n) (hmn : m ≤ n) : NoReset s m :=
  fun j hj => h j (hj.trans_le hmn)

/-- Settles O35: the registers of every cycle of the transfer are known in closed form. -/
theorem spiTransferTimeline : Obligations.SpiTransferTimeline := by
  intro s hw hidle hlow hen hr k hpos hk
  obtain ⟨m, rfl⟩ := Nat.exists_eq_add_of_le' hpos
  have hm := Nat.le_of_succ_le_succ hk
  refine (after_transferAt ⟨hw, hidle, hlow, hen⟩ (hr.mono hk) hm).mono fun t ht => ?_
  have hstate : t.ctl.state = .transfer ↔ m + 1 ≤ 2 * s.cfg.spiW * s.cfg.spiHalf := by
    rw [ht.bus.ctl, Nat.succ_le_iff]
    simp [ctlAfter]
  refine ⟨hstate, ?_, ?_, pulse_iff_exists_of_busAt ht.bus hm .rise,
    pulse_iff_exists_of_busAt ht.bus hm .fall⟩
  · have hbusy : t.spiBusy = decide (m + 1 ≤ 2 * s.cfg.spiW * s.cfg.spiHalf) := by
      rw [Bool.eq_iff_iff, spiBusy_iff, hstate, decide_eq_true_eq]
    rw [← hbusy, ← ht.bus.cfg]
    rfl
  · rw [ht.bus.ctl]
    exact clockAfter_iff hm

/-! ### The command word -/

/-- After `p < W` shifts `mosi` is bit `W-1-p` of the command word. -/
theorem mosi_of_transferAt {s t : State} {m p : Nat} (ht : TransferAt s m t)
    (hp : pulsesBefore s.cfg s.cfg.shiftEdge m = p) (hlt : p < s.cfg.spiW) :
    t.outputs.mosi = s.inp.cmd.testBit (s.cfg.spiW - (p + 1)) := by
  have hmosi : t.outputs.mosi = t.tx.testBit (t.cfg.spiW - 1) := rfl
  rw [hmosi, ht.bus.cfg, ht.tx, hp, shiftedIn_testBit _ (by omega), if_neg (by omega),
    State.inCmd, cut, Nat.testBit_mod_two_pow, decide_eq_true (by omega), Bool.true_and,
    Nat.sub_sub, Nat.add_comm]

/-- From the cycle after shift `p < W` to the cycle of the next one `mosi` is bit `W-1-p` of the
command word. -/
theorem after_mosi {s : State} {k p : Nat} (hs : Accepts s)
    (hr : NoReset s (2 * s.cfg.spiW * s.cfg.spiHalf + 1)) (hpos : 1 ≤ k) (hp : p < s.cfg.spiW)
    (hlo : p = 0 ∨ pulseCycle s.cfg s.cfg.shiftEdge p < k)
    (hhi : k ≤ pulseCycle s.cfg s.cfg.shiftEdge (p + 1)) :
    After s k (fun t => t.outputs.mosi = s.inp.cmd.testBit (s.cfg.spiW - (p + 1))) := by
  have hk := hhi.trans ((pulseCycle_le_iff s.cfg s.cfg.shiftEdge (p + 1)).2 hp)
  refine (after_transferAt_of_pos hs (hr.mono hk) hpos hk).mono fun t ht => ?_
  exact mosi_of_transferAt ht (pulsesBefore_eq (by omega) (by omega)) hp

/-- Pulse `p + 1` of the rise is after shift `p`, and not after shift `p + 1`. -/
theorem rise_between_shifts (c : Config) (p : Nat) :
    pulseCycle c c.shiftEdge p < pulseCycle c .rise (p + 1) ∧
      pulseCycle c .rise (p + 1) ≤ pulseCycle c c.shiftEdge (p + 1) := by
  rw [← Nat.not_lt, pulseCycle_lt_iff, pulseCycle_lt_iff]
  cases c.shiftEdge <;> simp only [toggleOf] <;> omega

theorem shiftEdge_of_rise {c : Config} (h : c.captureEdge = .rise) : c.shiftEdge = .fall := by
  rw [Config.shiftEdge, h]

theorem shiftEdge_of_fall {c : Config} (h : c.captureEdge = .fall) : c.shiftEdge = .rise := by
  rw [Config.shiftEdge, h]

/-- Settles O37: both windows of R148 lie between two shifts, and so does the first cycle of the
high phase. -/
theorem spiSendsTheCommandMsbFirst : Obligations.SpiSendsTheCommandMsbFirst := by
  intro s hw hidle hlow hen hr k hpos hk
  obtain ⟨p, rfl⟩ := Nat.exists_eq_add_of_le' hpos
  have hs : Accepts s := ⟨hw, hidle, hlow, hen⟩
  refine ⟨?_, fun hedge c hlo hhi => ?_, fun hedge hlast c hlo hhi => ?_⟩
  · obtain ⟨hafter, hbefore⟩ := rise_between_shifts s.cfg p
    exact after_mosi hs hr (Nat.succ_pos _) hk (.inr hafter) hbefore
  · have hshift := shiftEdge_of_rise hedge
    refine after_mosi hs hr ?_ hk ?_ (hshift ▸ hhi)
    · split_ifs at hlo <;> omega
    · rw [hshift]
      split_ifs at hlo with hfirst
      · exact .inl (Nat.succ_injective hfirst)
      · exact .inr hlo
  · have hshift := shiftEdge_of_fall hedge
    exact after_mosi hs hr (by omega) hlast (.inr (hshift ▸ hlo)) (hshift ▸ hhi)

/-! ### The response -/

theorem runFor_snoc {s t u : State} {k : Nat} (h : runFor k s = .next t) (hu : step t = .next u) :
    runFor (k + 1) s = .next u :=
  (runFor_add 1 h).trans (runFor_one hu)

/-- A next cycle exists after any run of a legal machine, on the levels that `s` foresees. -/
theorem step_after_run {s t : State} {k : Nat} (hw : s.cfg.wellFormed = true)
    (h : runFor k s = .next t) : ∃ u, step t = .next u ∧ t.inp = s.inputsAt k := by
  obtain ⟨u, hu⟩ := step_total (runFor_cfg h ▸ hw)
  exact ⟨u, hu, runFor_inputsAt h 0⟩

theorem rxAfter_testBit (s : State) {b : Nat} (hb : b < s.cfg.spiW) (p : Nat) :
    (s.rxAfter p).testBit b =
      if b < p then s.sample (p - b) else (nextRx s).testBit (b - p) :=
  shiftedIn_testBit _ hb p

/-- The complete response: it fits its width, and its bits are the samples, MSB first (R147). -/
theorem response_spec {s : State} (hspiW : 1 ≤ s.cfg.spiW) :
    s.rxAfter s.cfg.spiW < 2 ^ s.cfg.spiW ∧ ∀ j, 1 ≤ j → j ≤ s.cfg.spiW →
      (s.rxAfter s.cfg.spiW).testBit (s.cfg.spiW - j) = s.sample j := by
  refine ⟨shiftedIn_lt _ (by omega), fun j hpos hj => ?_⟩
  rw [rxAfter_testBit s (by omega), if_pos (by omega), Nat.sub_sub_self hj]

theorem after_rx {s : State} {m : Nat} (hs : Accepts s) (hr : NoReset s (m + 1))
    (hm : m ≤ 2 * s.cfg.spiW * s.cfg.spiHalf + 1) :
    After s (m + 1) (fun t => t.rx = s.rxAfter (pulsesBefore s.cfg s.cfg.captureEdge m)) := by
  cases m with
  | zero => exact (after_transferAt hs hr (Nat.zero_le _)).mono fun t ht => ht.rx
  | succ m =>
    obtain ⟨t, hrun, ht⟩ :=
      after_transferAt hs (hr.mono (Nat.le_succ _)) (Nat.le_of_succ_le_succ hm)
    obtain ⟨u, hu, hinp⟩ := step_after_run hs.wellFormed hrun
    exact ⟨u, runFor_snoc hrun hu,
      rx_succ_of_transferAt ht hinp (hinp ▸ hr _ (Nat.lt_succ_self _)) hu⟩

/-- From the last capture to the first cycle after the transfer the count of captures is `W`. -/
theorem pulsesBefore_end {c : Config} {m : Nat} (hlo : captureCycle c c.spiW ≤ m)
    (hhi : m ≤ 2 * c.spiW * c.spiHalf + 1) : pulsesBefore c c.captureEdge m = c.spiW := by
  rw [captureCycle_eq] at hlo
  refine pulsesBefore_eq (.inr hlo) (hhi.trans_lt (Nat.lt_of_not_le fun h => ?_))
  exact Nat.not_succ_le_self _ ((pulseCycle_le_iff c c.captureEdge _).1 h)

theorem captureCycle_le {c : Config} {j : Nat} (hj : j ≤ c.spiW) :
    captureCycle c j ≤ 2 * c.spiW * c.spiHalf + 1 := by
  rw [captureCycle_eq]
  exact (pulseCycle_le_iff c c.captureEdge j).2 hj

/-- The complete response is made of samples alone. -/
theorem response_congr {s s' : State} (hcfg : s'.cfg = s.cfg) (hspiW : 1 ≤ s.cfg.spiW)
    (h : ∀ j, 1 ≤ j → j ≤ s.cfg.spiW → s'.sample j = s.sample j) :
    s'.rxAfter s'.cfg.spiW = s.rxAfter s.cfg.spiW := by
  refine Nat.eq_of_testBit_eq fun b => ?_
  by_cases hb : b < s.cfg.spiW
  · rw [rxAfter_testBit s' (hcfg ▸ hb), rxAfter_testBit s hb, hcfg, if_pos hb, if_pos hb]
    exact h _ (by omega) (Nat.sub_le _ _)
  · have hfits {v : Nat} (hv : v < 2 ^ s.cfg.spiW) : v.testBit b = false :=
      Nat.testBit_lt_two_pow (hv.trans_le (Nat.pow_le_pow_right Nat.two_pos (Nat.le_of_not_lt hb)))
    obtain ⟨hlt, -⟩ := response_spec hspiW
    obtain ⟨hlt', -⟩ := response_spec (s := s') (hcfg ▸ hspiW)
    rw [hcfg] at hlt'
    rw [hfits hlt, hcfg, hfits hlt']

/-- The response is complete in the cycle after the last capture. -/
theorem after_last_capture {s : State} (hs : Accepts s)
    (hr : NoReset s (captureCycle s.cfg s.cfg.spiW + 1)) :
    After s (captureCycle s.cfg s.cfg.spiW + 1) (fun t => t.rx = s.rxAfter s.cfg.spiW) := by
  have hend := captureCycle_le (le_refl s.cfg.spiW)
  have hrx := after_rx hs hr hend
  rwa [pulsesBefore_end le_rfl hend] at hrx

/-- Settles O39: both responses are complete in that cycle, and they agree in every sample. -/
theorem sameCommandAndMisoGiveTheSameResponse :
    Obligations.SameCommandAndMisoGiveTheSameResponse := by
  intro s s' hcfg hw hidle hlow hen hidle' hlow' hen' _ hr hr' hmiso
  obtain ⟨t, hrun, ht⟩ := after_last_capture ⟨hw, hidle, hlow, hen⟩ hr
  obtain ⟨t', hrun', ht'⟩ :=
    after_last_capture (s := s') ⟨hcfg ▸ hw, hidle', hlow', hen'⟩ (hcfg ▸ hr')
  refine ⟨t, t', hrun, hcfg ▸ hrun', ?_⟩
  have hsample : ∀ j, 1 ≤ j → j ≤ s.cfg.spiW → s'.sample j = s.sample j := by
    intro j hpos hj
    rw [State.sample, State.sample, ← hcfg]
    exact hmiso j hpos hj
  calc t'.rx = s'.rxAfter s'.cfg.spiW := ht'
    _ = s.rxAfter s.cfg.spiW :=
      response_congr hcfg.symm ((wellFormed_iff s.cfg).1 hw).1 hsample
    _ = t.rx := ht.symm

/-! ### Until the next transfer's first capture -/

/-- IDLE with no pulse left (`g = 0`), or cycle `g` of a transfer. -/
def QuietAt (c : Config) : Nat → State → Prop
  | 0, t => t.cfg = c ∧ t.ctl.state = .idle ∧ t.ctl.sclk = false ∧ t.sclkQ = false
  | m + 1, t => BusAt c m t

/-- IDLE with the bus clock low leads to IDLE without a pulse or into a transfer. -/
theorem quietAt_of_idle {t u : State} (hw : t.cfg.wellFormed = true)
    (hidle : t.ctl.state = .idle) (hlow : t.ctl.sclk = false) (hr : t.inp.rst = false)
    (h : step t = .next u) : QuietAt t.cfg t.inp.en.toNat u := by
  cases hen : t.inp.en with
  | true => exact busAt_zero ⟨hw, hidle, hlow, hen⟩ hr h
  | false =>
    obtain ⟨hctl, -, -, hq⟩ := step_spi h hr
    rw [hen, nextCtl_of_idle _ hidle] at hctl
    exact ⟨step_cfg h, by rw [hctl]; rfl, by rw [hctl]; rfl, hq.trans hlow⟩

/-- No capture comes before the first one of a transfer. -/
theorem cap_eq_false_of_quietAt {c : Config} {g : Nat} {t : State} (ht : QuietAt c g t)
    (hg : g < captureCycle c 1) : t.cap = false := by
  rw [captureCycle_eq] at hg
  rw [cap_eq_pulse]
  cases g with
  | zero =>
    obtain ⟨-, -, hlow, hq⟩ := ht
    cases t.cfg.captureEdge <;> simp [State.pulse, State.rise, State.fall, hlow, hq]
  | succ m =>
    have hbus : BusAt c m t := ht
    rw [hbus.cfg, ← Bool.not_eq_true, pulse_iff_of_busAt hbus,
      pulsesBefore_eq (.inl rfl) (Nat.lt_of_succ_lt hg)]
    exact hg.ne

theorem quietAt_step {c : Config} {g : Nat} {t u : State} (hw : c.wellFormed = true)
    (ht : QuietAt c g t) (hg : g < captureCycle c 1) (hr : t.inp.rst = false)
    (h : step t = .next u) :
    u.rx = t.rx ∧ QuietAt c (if g = 0 then t.inp.en.toNat else g + 1) u := by
  obtain ⟨-, -, hrx, -⟩ := step_spi h hr
  refine ⟨?_, ?_⟩
  · rw [hrx, nextRx, cap_eq_false_of_quietAt ht hg, if_neg Bool.false_ne_true]
  cases g with
  | zero =>
    obtain ⟨rfl, hidle, hlow, -⟩ := ht
    exact quietAt_of_idle hw hidle hlow hr h
  | succ m =>
    have hm := hg.trans_le (captureCycle_le ((wellFormed_iff c).1 hw).1)
    exact busAt_succ (Nat.lt_of_succ_lt_succ hm) ht hr h

/-- The SpiMaster in cycle `k` when no request comes before cycle `n`: at most `k - n` cycles into a
transfer. -/
def QuietBy (c : Config) (n k : Nat) (t : State) : Prop :=
  ∃ g, QuietAt c g t ∧ (g = 0 ∨ g + n ≤ k)

/-- A request before cycle `n` is not made, so one in cycle `k` begins a transfer no earlier. -/
theorem request_progress {en : Bool} {n k : Nat} (h : k < n → en = false) :
    en.toNat = 0 ∨ en.toNat + n ≤ k + 1 := by
  cases en with
  | false => exact .inl rfl
  | true =>
    have hn : ¬k < n := fun hlt => absurd (h hlt) nofun
    exact .inr (by rw [Bool.toNat_true]; omega)

/-- A response is kept until the first capture of a transfer accepted in cycle `n` or later. -/
theorem after_rx_kept {s u : State} {a n k : Nat} (hw : s.cfg.wellFormed = true)
    (hrun : runFor a s = .next u) (hu : QuietBy s.cfg n a u)
    (hr : NoReset s (n + captureCycle s.cfg 1))
    (hen : ∀ j, a ≤ j → j < n → (s.inputsAt j).en = false)
    (hk : a + k ≤ n + captureCycle s.cfg 1) : After s (a + k) (fun t => t.rx = u.rx) := by
  have hcfg := runFor_cfg hrun
  have hinputs := runFor_inputsAt hrun
  have hquiet : After u k (fun t => t.rx = u.rx ∧ QuietBy s.cfg n (a + k) t) := by
    refine after_induction (I := fun k t => t.rx = u.rx ∧ QuietBy s.cfg n (a + k) t) (hcfg ▸ hw)
      ⟨rfl, hu⟩ ?_ k le_rfl
    rintro j t v hj - hinp hstep ⟨hrx, g, ht, hg⟩
    rw [hinputs] at hinp
    have hcap : g < captureCycle s.cfg 1 := by
      rw [captureCycle_eq, pulseCycle] at *; omega
    obtain ⟨hkept, hv⟩ := quietAt_step hw ht hcap (hinp ▸ hr _ (by omega)) hstep
    refine ⟨hkept.trans hrx, _, hv, ?_⟩
    split_ifs with h0
    · exact request_progress fun hlt => hinp ▸ hen _ (Nat.le_add_right _ _) hlt
    · exact .inr (by omega)
  exact .trans hrun (hquiet.mono fun t ht => ht.1)

/-- One cycle after the transfer's end the response is complete, and the SpiMaster is in IDLE or in
the first cycle of the next transfer. -/
theorem after_transfer_end {s : State} {n : Nat} (hs : Accepts s)
    (hr : NoReset s (2 * s.cfg.spiW * s.cfg.spiHalf + 2))
    (hen : 2 * s.cfg.spiW * s.cfg.spiHalf + 1 < n →
      (s.inputsAt (2 * s.cfg.spiW * s.cfg.spiHalf + 1)).en = false) :
    After s (2 * s.cfg.spiW * s.cfg.spiHalf + 2) (fun u => u.rx = s.rxAfter s.cfg.spiW ∧
      QuietBy s.cfg n (2 * s.cfg.spiW * s.cfg.spiHalf + 2) u) := by
  obtain ⟨t, hrun, ht⟩ := after_transferAt hs (hr.mono (Nat.le_succ _)) le_rfl
  obtain ⟨u, hu, hinp⟩ := step_after_run hs.wellFormed hrun
  have hrt : t.inp.rst = false := hinp ▸ hr _ (Nat.lt_succ_self _)
  have hidle : t.ctl.state = .idle := by rw [ht.bus.ctl, ctlAfter_end_state]
  have hlow : t.ctl.sclk = false := by rw [ht.bus.ctl]; exact clockAfter_end s.cfg
  refine ⟨u, runFor_snoc hrun hu, ?_, t.inp.en.toNat, ?_, request_progress (hinp ▸ hen)⟩
  · rw [rx_succ_of_transferAt ht hinp hrt hu, pulsesBefore_end (captureCycle_le le_rfl) le_rfl]
  · exact ht.bus.cfg ▸ quietAt_of_idle (ht.bus.cfg ▸ hs.wellFormed) hidle hlow hrt hu

/-- From the cycle after the last capture until the first capture of a transfer accepted in cycle
`n` or later `rx` is the complete response. -/
theorem after_response {s : State} {n k : Nat} (hs : Accepts s)
    (hr : NoReset s (n + captureCycle s.cfg 1))
    (hen : ∀ j, 2 * s.cfg.spiW * s.cfg.spiHalf + 1 ≤ j → j < n → (s.inputsAt j).en = false)
    (hlo : captureCycle s.cfg s.cfg.spiW + 1 ≤ k) (hhi : k ≤ n + captureCycle s.cfg 1) :
    After s k (fun t => t.rx = s.rxAfter s.cfg.spiW) := by
  obtain ⟨m, rfl⟩ := Nat.exists_eq_add_of_le' (Nat.one_le_of_lt hlo)
  by_cases hm : m ≤ 2 * s.cfg.spiW * s.cfg.spiHalf + 1
  · refine (after_rx hs (hr.mono hhi) hm).mono fun t ht => ?_
    rw [ht, pulsesBefore_end (Nat.le_of_succ_le_succ hlo) hm]
  · have hlate : 2 * s.cfg.spiW * s.cfg.spiHalf + 2 ≤ m + 1 := by omega
    obtain ⟨u, hrun, hrx, hquiet⟩ :=
      after_transfer_end hs (hr.mono (hlate.trans hhi)) (hen _ le_rfl)
    obtain ⟨i, hi⟩ := Nat.exists_eq_add_of_le hlate
    rw [hi] at hhi
    rw [hi, ← hrx]
    exact after_rx_kept hs.wellFormed hrun hquiet hr (fun j hj => hen j (Nat.le_of_succ_le hj)) hhi

/-- Settles O38: before the last capture `rx` holds the samples so far below its former value, and
after it the samples alone. -/
theorem spiResponseIsTheSampledBits : Obligations.SpiResponseIsTheSampledBits := by
  intro s hw hidle hlow hen n hn hr hquiet
  have hs : Accepts s := ⟨hw, hidle, hlow, hen⟩
  refine ⟨fun c hlo hhi => ?_, fun j c hpos hj hlo hhi => ?_⟩
  · refine (after_response hs hr hquiet hlo hhi).mono fun t (ht : t.outputs.resp = _) => ?_
    rw [ht]
    exact response_spec ((wellFormed_iff s.cfg).1 hw).1
  · have hend := hhi.trans (captureCycle_le (Nat.succ_le_of_lt hj))
    obtain ⟨t₁, ht₁⟩ := step_total hw
    obtain ⟨-, -, hrx₁, -⟩ := step_spi ht₁ (hr 0 (by omega))
    refine ⟨t₁, runFor_one ht₁, ?_⟩
    have hrun := after_transferAt_of_pos hs (hr.mono (by omega)) (by omega) hend
    refine hrun.mono fun t ht b hb => ?_
    rw [captureCycle_eq] at hlo hhi
    have hcount : pulsesBefore s.cfg s.cfg.captureEdge (c - 1) = j :=
      pulsesBefore_eq (.inr (Nat.le_sub_one_of_lt hlo)) (by omega)
    show t.rx.testBit b = _
    rw [ht.rx, hcount, rxAfter_testBit s hb, hrx₁]
    rfl

end Sys2Proof.Machine

/-! One cycle of the BcdConverter: what selects each of its operations and what each leaves
(42_bcd_converter.md R170 to R175), and what a correction is worth as a number (R178). -/

namespace Sys2Proof.Machine

/-! ### The decode table -/

/-- Settles O20: BCD_START stands first in the decode table and looks at `enable` alone. -/
theorem bcdStartAndIdle : Obligations.BcdStartAndIdle := by
  intro s
  rw [operation_bcd]
  refine ⟨?_, ?_, ⟨_, rfl, rfl, cut_eq_of_lt,
    Nat.testBit_mod_two_pow _ _, rfl⟩, ⟨_, rfl, rfl⟩⟩
  · split_ifs <;> simp [*]
  · split_ifs <;> simp [*]

/-! ### The correction -/

/-- A correction is due exactly where some digit is 5 or more and none has been made (R171). -/
theorem corr_iff (s : State) :
    s.corr = true ↔ s.bcd.fix = false ∧ ∃ i < 4, 5 ≤ (nibble s.bcd.acc i).toNat := by
  have hany : any5 s.bcd.acc = true ↔ ∃ i < 4, 5 ≤ (nibble s.bcd.acc i).toNat := by
    rw [← Bool.not_eq_false, any5_eq_false_iff]
    push Not
    rfl
  rw [State.corr, Bool.and_eq_true, hany, Bool.not_eq_true', and_comm]

/-- Each digit of a corrected word is the corrected digit (R172). -/
theorem nibble_add3 (acc : Packed) {i : Nat} (hi : i < 4) :
    nibble (add3 acc) i = add3Digit (nibble acc i) := by
  obtain ⟨h0, h1, h2, h3⟩ := nibble_packNibbles (add3Digit (nibble acc 0))
    (add3Digit (nibble acc 1)) (add3Digit (nibble acc 2)) (add3Digit (nibble acc 3))
  interval_cases i
  · exact h0
  · exact h1
  · exact h2
  · exact h3

theorem add3Digit_toNat (n : Nibble) :
    (add3Digit n).toNat = if 5 ≤ n.toNat then min (n.toNat + 3) 15 else n.toNat := by
  revert n; decide

/-- Settles O21: the decode table reads the correction's flag, and the correction goes digit by
digit. -/
theorem bcdAdd3CorrectsEachDigit : Obligations.BcdAdd3CorrectsEachDigit := by
  intro s
  rw [operation_bcd]
  refine ⟨?_, ⟨_, rfl, rfl, fun i hi => ?_⟩⟩
  · rw [← corr_iff]
    split_ifs <;> simp [*]
  · rw [← add3Digit_toNat, ← nibble_add3 _ hi]
    rfl

/-- A packed word as the number its four digits give (R63). -/
theorem packed_toNat (v : Packed) :
    v.toNat = (nibble v 0).toNat + 16 * (nibble v 1).toNat + 256 * (nibble v 2).toNat +
      4096 * (nibble v 3).toNat := by
  have hv := v.isLt
  simp only [nibble_toNat]
  omega

/-- Packed words with the same four digits are the same (R63). -/
theorem packed_ext {a b : Packed} (h : ∀ i < 4, (nibble a i).toNat = (nibble b i).toNat) :
    a = b := by
  apply BitVec.eq_of_toNat_eq
  rw [packed_toNat a, packed_toNat b, h 0 (by omega), h 1 (by omega), h 2 (by omega),
    h 3 (by omega)]

/-- The correction of a decimal digit does not saturate (R178, 90_conflicts.md C9). -/
theorem add3Digit_toNat_of_le_nine {n : Nibble} (h : n.toNat ≤ 9) :
    (add3Digit n).toNat = n.toNat + if 5 ≤ n.toNat then 3 else 0 := by
  rw [add3Digit_toNat]
  split_ifs <;> omega

/-- The correction of a word of decimal digits carries from none of them (R178, C9). -/
theorem add3_toNat_of_le_nine {acc : Packed} (h : ∀ i < 4, (nibble acc i).toNat ≤ 9) :
    (add3 acc).toNat = acc.toNat +
      ((if 5 ≤ (nibble acc 0).toNat then 3 else 0) +
       (if 5 ≤ (nibble acc 1).toNat then 3 * 16 else 0) +
       (if 5 ≤ (nibble acc 2).toNat then 3 * 16 ^ 2 else 0) +
       (if 5 ≤ (nibble acc 3).toNat then 3 * 16 ^ 3 else 0)) := by
  have hdigit {i : Nat} (hi : i < 4) : (nibble (add3 acc) i).toNat =
      (nibble acc i).toNat + if 5 ≤ (nibble acc i).toNat then 3 else 0 := by
    rw [nibble_add3 acc hi, add3Digit_toNat_of_le_nine (h i hi)]
  rw [packed_toNat (add3 acc), packed_toNat acc, hdigit (by omega), hdigit (by omega),
    hdigit (by omega), hdigit (by omega)]
  split_ifs <;> omega

/-- Settles O32: a correction is selected where none has been made, and there the invariant bounds
every digit by 9. -/
theorem saturationIsNeverExercised : Obligations.SaturationIsNeverExercised := by
  intro s hinv hop
  obtain ⟨-, -, -, -, hbcd, -⟩ := hinv
  obtain ⟨-, -, -, -, hdigits⟩ := (bcdInv_iff s).1 hbcd
  obtain ⟨hselect, -⟩ := bcdAdd3CorrectsEachDigit s
  obtain ⟨-, hactive, hfix, -⟩ := hselect.1 hop
  have hnine : ∀ i < 4, (nibble s.bcd.acc i).toNat ≤ 9 :=
    (digitsBound_iff false _).1 (hfix ▸ hdigits hactive)
  exact ⟨hnine, _, rfl, add3_toNat_of_le_nine hnine⟩

/-! ### The joint shift -/

/-- The working half of the joint shift fills 0 (R173). -/
theorem shiftedWork_eq_shiftIn (w : Nat) (b : Bcd) :
    shiftedWork w b = shiftIn w b.work false := by
  rw [shiftedWork_eq, doubledJoint, shiftIn, cut, cut, cut, mul_add, ← mul_assoc,
    Nat.mul_add_mod_self_right, Nat.mul_mod_mod]
  rfl

/-- What leaves `work` at the top in a joint shift is its highest bit (R173). -/
theorem carry_eq_testBit {w : Nat} (hw : 1 ≤ w) (x : Nat) :
    2 * cut w x / 2 ^ w = (x.testBit (w - 1)).toNat := by
  obtain ⟨n, rfl⟩ := Nat.exists_eq_add_of_le' hw
  rw [cut, pow_succ', Nat.mul_div_mul_left _ _ Nat.two_pos, mul_comm, Nat.mod_mul_right_div_self,
    Nat.add_sub_cancel, Nat.toNat_testBit]

/-- The accumulator half of the joint shift takes in the highest bit of `work` (R173). -/
theorem shiftedAcc_toNat_eq_shiftIn {w : Nat} (hw : 1 ≤ w) (b : Bcd) :
    (shiftedAcc w b).toNat = shiftIn 16 b.acc.toNat (b.work.testBit (w - 1)) := by
  rw [shiftedAcc_eq, BitVec.toNat_ofNat, doubledJoint, mul_add, ← mul_assoc, add_comm,
    Nat.add_mul_div_right _ _ (Nat.two_pow_pos w), add_comm, carry_eq_testBit hw]
  rfl

theorem shiftedAcc_getLsbD {w : Nat} (hw : 1 ≤ w) (b : Bcd) {k : Nat} (hk : k < 16) :
    (shiftedAcc w b).getLsbD k =
      if k = 0 then b.work.testBit (w - 1) else b.acc.getLsbD (k - 1) := by
  rw [← BitVec.testBit_toNat, shiftedAcc_toNat_eq_shiftIn hw]
  cases k with
  | zero => exact shiftIn_testBit_zero (by omega) _ _
  | succ k => rw [shiftIn_testBit_succ]; simp [hk, BitVec.testBit_toNat]

/-- Settles O22: both halves of the joint shift are shifts by one bit, the upper one filled from the
lower. -/
theorem bcdShiftsTheJointRegister : Obligations.BcdShiftsTheJointRegister := by
  intro s hw
  have hacc (k : Nat) (hk : k < 16) := shiftedAcc_getLsbD hw s.bcd hk
  have hwork (k : Nat) : (shiftedWork s.cfg.bcdW s.bcd).testBit k =
      (decide (k < s.cfg.bcdW) && decide (1 ≤ k) && s.bcd.work.testBit (k - 1)) := by
    rw [shiftedWork_eq_shiftIn, shiftIn_false_testBit]
  rw [operation_bcd]
  refine ⟨?_, ?_, ⟨_, rfl, rfl, hacc, hwork, fun hpos hmax => ?_⟩,
    ⟨_, rfl, rfl, hacc, hwork, rfl, rfl⟩⟩
  · split_ifs <;> simp [*]
  · split_ifs <;> simp [*]
  · exact decAt_eq hpos (bcdCnt_lt_width _ hmax)

/-! ### A step of the BcdConverter's registers -/

/-- All that a step does to the BcdConverter's registers (R162, R260). -/
theorem step_bcd {s t : State} (h : step s = .next t) :
    t.bcd = if s.inp.rst then s.resetRegisters.bcd else nextBcd s := by
  obtain ⟨-, ⟨hr, rfl⟩ | ⟨hr, rfl⟩⟩ := step_next h
  · rw [hr, State.advance_bcd, if_pos rfl]
  · rw [hr, State.advance_bcd, committed_bcd, if_neg Bool.false_ne_true]

theorem step_bcd_of_not_rst {s t : State} (h : step s = .next t) (hr : s.inp.rst = false) :
    t.bcd = nextBcd s := by
  rw [step_bcd h, hr, if_neg Bool.false_ne_true]

/-- The BcdConverter's registers after a start (R170). -/
def startedBcd (c : Config) (din : Nat) (out : Packed) : Bcd :=
  { work := cut c.bcdW din, acc := 0, cnt := c.bcdW, active := true, fix := false, out := out }

theorem nextBcd_of_enable {s : State} (h : s.inp.enable = true) :
    nextBcd s = startedBcd s.cfg s.inp.din s.bcd.out := if_pos h

theorem nextBcd_of_not_enable {s : State} (h : s.inp.enable = false) :
    nextBcd s = nextConversion s.cfg s.bcd := by
  rw [nextBcd, State.inEnable, h, if_neg Bool.false_ne_true]

/-- Settles O45: a start keeps `out` and sets `active`, and no cycle is anything but a start. -/
theorem heldEnableNeverCompletes : Obligations.HeldEnableNeverCompletes := by
  intro s n hw hr hen
  have hrun : ∀ k ≤ n, After s k (fun t =>
      (1 ≤ k → t.bcd.active = true) ∧ t.bcd.out = s.bcd.out) := by
    refine after_induction (I := fun k t =>
      (1 ≤ k → t.bcd.active = true) ∧ t.bcd.out = s.bcd.out) hw ⟨nofun, rfl⟩ ?_
    rintro k t u hk - hinp hstep ⟨-, hout⟩
    rw [step_bcd_of_not_rst hstep (hinp ▸ hr k hk), nextBcd_of_enable (hinp ▸ hen k hk)]
    exact ⟨fun _ => rfl, hout⟩
  refine ⟨fun k hk => ?_, fun k hpos hk => ?_⟩
  · obtain ⟨t, ht, -⟩ := hrun k hk.le
    obtain ⟨hstart, -⟩ := bcdStartAndIdle t
    obtain ⟨-, -, hinp⟩ := step_after_run hw ht
    exact ⟨t, ht, hstart.2 (hinp ▸ hen k hk)⟩
  · exact (hrun k hk).mono fun t ⟨hactive, hout⟩ => ⟨hactive hpos, hout⟩

/-! ### Two cores whose converters agree -/

/-- The two machines agree in all that the BcdConverter's registers will ever be computed from. -/
def SameConverter (s s' : State) : Prop :=
  s'.cfg = s.cfg ∧ (∀ k, s'.inputsAt k = s.inputsAt k) ∧ s'.bcd = s.bcd

/-- The next registers are computed from the parameters, the input levels and the converter's own
registers (R20, R72). -/
theorem SameConverter.nextBcd_eq {s s' : State} (h : SameConverter s s') :
    nextBcd s' = nextBcd s := by
  obtain ⟨hcfg, hinputs, hbcd⟩ := h
  have hinp : s'.inp = s.inp := hinputs 0
  unfold nextBcd State.inEnable State.inDin
  rw [hcfg, hinp, hbcd]

theorem sameConverter_step {s s' t t' : State} (hcfg : s'.cfg = s.cfg)
    (hinputs : ∀ k, s'.inputsAt k = s.inputsAt k) (hnext : nextBcd s' = nextBcd s)
    (h : step s = .next t) (h' : step s' = .next t') : SameConverter t t' := by
  have hinp : s'.inp = s.inp := hinputs 0
  refine ⟨?_, fun k => ?_, ?_⟩
  · rw [step_cfg h', step_cfg h, hcfg]
  · rw [step_inputsAt h', step_inputsAt h, hinputs]
  · rw [step_bcd h', step_bcd h, hinp, hnext, State.resetRegisters_bcd, State.resetRegisters_bcd]

theorem sameConverter_runFor {s s' : State} (hw : s.cfg.wellFormed = true)
    (h : SameConverter s s') (k : Nat) :
    ∃ t t', runFor k s = .next t ∧ runFor k s' = .next t' ∧ SameConverter t t' := by
  induction k generalizing s s' with
  | zero => exact ⟨s, s', rfl, rfl, h⟩
  | succ k ih =>
    have hsame := h.nextBcd_eq
    obtain ⟨hcfg, hinputs, -⟩ := h
    obtain ⟨t, ht⟩ := step_total hw
    obtain ⟨t', ht'⟩ := step_total (hcfg ▸ hw)
    rw [runFor_succ k ht, runFor_succ k ht']
    exact ih (step_cfg ht ▸ hw) (sameConverter_step hcfg hinputs hsame ht ht')

/-- A start takes nothing from the converter but `out` (R170, R179). -/
theorem sameConverter_of_start {s t t' : State} {b : Bcd} (hen : s.inp.enable = true)
    (hout : b.out = s.bcd.out) (h : step s = .next t) (h' : step (s.setBcd b) = .next t') :
    SameConverter t t' := by
  refine sameConverter_step (s := s) (s' := s.setBcd b) rfl
    (inputsAt_adoptAll s fun _ => s.setBcd b) ?_ h h'
  rw [nextBcd_of_enable hen, nextBcd_of_enable (s := s.setBcd b) hen, State.setBcd_bcd, hout]
  rfl

/-- Settles O44: after the first cycle the two converters agree, and so they do ever after. -/
theorem retriggerForgetsTheOldConversion : Obligations.RetriggerForgetsTheOldConversion := by
  intro s b hw hen hout k hpos
  obtain ⟨m, rfl⟩ := Nat.exists_eq_add_of_le' hpos
  obtain ⟨u, hu⟩ := step_total hw
  obtain ⟨u', hu'⟩ := step_total (s := s.setBcd b) hw
  obtain ⟨t, t', ht, ht', -, -, hbcd⟩ :=
    sameConverter_runFor (step_cfg hu ▸ hw) (sameConverter_of_start hen hout hu hu') m
  exact ⟨t, t', (runFor_succ m hu).trans ht, (runFor_succ m hu').trans ht', hbcd⟩

end Sys2Proof.Machine

/-! A conversion of the BcdConverter (42_bcd_converter.md R176, R177, R181, R182): the accumulator
holds the decimal digits of the bits shifted in so far, and a correction before a shift makes each
digit double as a decimal one. -/

namespace Sys2Proof.Machine

/-! ### Decimal digits -/

/-- The packed word of the four lowest decimal digits of a number (R177). -/
def packedDecimal (u : Nat) : Packed :=
  packNibbles (BitVec.ofNat 4 (decimalDigit u 0)) (BitVec.ofNat 4 (decimalDigit u 1))
    (BitVec.ofNat 4 (decimalDigit u 2)) (BitVec.ofNat 4 (decimalDigit u 3))

theorem decimalDigit_le_nine (u i : Nat) : decimalDigit u i ≤ 9 :=
  Nat.le_of_lt_succ (Nat.mod_lt _ (by omega))

theorem nibble_packedDecimal (u : Nat) {i : Nat} (hi : i < 4) :
    (nibble (packedDecimal u) i).toNat = decimalDigit u i := by
  obtain ⟨h0, h1, h2, h3⟩ := nibble_packNibbles (BitVec.ofNat 4 (decimalDigit u 0))
    (BitVec.ofNat 4 (decimalDigit u 1)) (BitVec.ofNat 4 (decimalDigit u 2))
    (BitVec.ofNat 4 (decimalDigit u 3))
  have hdigit (j : Nat) : (BitVec.ofNat 4 (decimalDigit u j)).toNat = decimalDigit u j := by
    have hnine := decimalDigit_le_nine u j
    rw [BitVec.toNat_ofNat]
    omega
  rw [packedDecimal]
  interval_cases i
  · rw [h0, hdigit]
  · rw [h1, hdigit]
  · rw [h2, hdigit]
  · rw [h3, hdigit]

theorem packedDecimal_zero : packedDecimal 0 = 0 := by decide

/-- The four lowest digits do not see the multiples of 10000 (R182). -/
theorem decimalDigit_mod (u : Nat) {i : Nat} (hi : i < 4) :
    decimalDigit (u % 10000) i = decimalDigit u i := by
  unfold decimalDigit
  interval_cases i <;> omega

/-- A correction is due where some decimal digit is 5 or more (R171). -/
theorem any5_packedDecimal (u : Nat) : any5 (packedDecimal u) = someDigit5 u := by
  simp only [any5, ge5, someDigit5, nibble_packedDecimal u (show 0 < 4 by omega),
    nibble_packedDecimal u (show 1 < 4 by omega), nibble_packedDecimal u (show 2 < 4 by omega),
    nibble_packedDecimal u (show 3 < 4 by omega)]

/-- A word with no digit of 5 or more is its own correction (R172). -/
theorem add3_of_not_any5 {acc : Packed} (h : any5 acc = false) : add3 acc = acc := by
  refine packed_ext fun i hi => ?_
  have hlow := (any5_eq_false_iff acc).1 h i hi
  rw [nibble_add3 acc hi, add3Digit_toNat, if_neg (by omega)]

/-- What a digit passes to the next one when the number doubles and `b` enters at the low end: the
entering bit at digit 0, and elsewhere 1 from a digit of 5 or more below. -/
def doublingCarry (u : Nat) (b : Bool) : Nat → Nat
  | 0 => b.toNat
  | i + 1 => (decide (5 ≤ decimalDigit u i)).toNat

theorem doublingCarry_le_one (u : Nat) (b : Bool) (i : Nat) : doublingCarry u b i ≤ 1 := by
  cases i <;> exact Bool.toNat_le _

theorem decimalDigit_succ (u i : Nat) : decimalDigit u (i + 1) = decimalDigit (u / 10) i := by
  rw [decimalDigit, decimalDigit, pow_succ', Nat.div_div_eq_div_mul]

/-- Decimal doubling, digit by digit. -/
theorem decimalDigit_double (u : Nat) (b : Bool) (i : Nat) :
    decimalDigit (2 * u + b.toNat) i = (2 * decimalDigit u i + doublingCarry u b i) % 10 := by
  induction i generalizing u b with
  | zero => simp only [decimalDigit, doublingCarry, pow_zero, Nat.div_one]; omega
  | succ i ih =>
    have hten : (2 * u + b.toNat) / 10 =
        2 * (u / 10) + (decide (5 ≤ decimalDigit u 0)).toNat := by
      have hb := Bool.toNat_le b
      by_cases hfive : 5 ≤ decimalDigit u 0
      all_goals
        simp only [hfive, decide_true, decide_false, Bool.toNat_true, Bool.toNat_false]
        simp only [decimalDigit, pow_zero, Nat.div_one] at hfive
        omega
    have hcarry : doublingCarry (u / 10) (decide (5 ≤ decimalDigit u 0)) i =
        doublingCarry u b (i + 1) := by
      cases i with
      | zero => rfl
      | succ i => rw [doublingCarry, doublingCarry, decimalDigit_succ]
    rw [decimalDigit_succ, hten, ih, decimalDigit_succ u, hcarry]

/-! ### A correction and a shift double a packed word -/

/-- What a digit takes in from below in a shift of the accumulator by one bit (R173). -/
def shiftCarry (acc : Packed) (b : Bool) : Nat → Nat
  | 0 => b.toNat
  | i + 1 => (nibble acc i).toNat / 8

theorem nibble_shiftedAcc_eq {w : Nat} (hw : 1 ≤ w) (r : Bcd) {i : Nat} (hi : i < 4) :
    (nibble (shiftedAcc w r) i).toNat =
      (2 * (nibble r.acc i).toNat + shiftCarry r.acc (r.work.testBit (w - 1)) i) % 16 := by
  have hb := Bool.toNat_le (r.work.testBit (w - 1))
  rw [nibble_toNat, shiftedAcc_toNat_eq_shiftIn hw, shiftIn, cut]
  interval_cases i <;> simp only [shiftCarry, nibble_toNat] <;> omega

/-- A corrected decimal digit is 8 or more exactly where the digit was 5 or more, so that a shift
carries out of it what decimal doubling does. -/
theorem shiftCarry_add3_packedDecimal (u : Nat) (b : Bool) {i : Nat} (hi : i ≤ 4) :
    shiftCarry (add3 (packedDecimal u)) b i = doublingCarry u b i := by
  cases i with
  | zero => rfl
  | succ i =>
    have hnine := decimalDigit_le_nine u i
    rw [shiftCarry, doublingCarry, nibble_add3 _ hi, add3Digit_toNat, nibble_packedDecimal u hi]
    by_cases hfive : 5 ≤ decimalDigit u i
    · rw [if_pos hfive, decide_eq_true hfive, Bool.toNat_true]
      omega
    · rw [if_neg hfive, decide_eq_false hfive, Bool.toNat_false]
      omega

/-- Correction and shift together: from the decimal digits of `u` to those of `2 * u` plus the bit
that enters (R177). -/
theorem shiftedAcc_of_corrected {w u : Nat} (hw : 1 ≤ w) {r : Bcd}
    (h : r.acc = add3 (packedDecimal u)) :
    shiftedAcc w r = packedDecimal (2 * u + (r.work.testBit (w - 1)).toNat) := by
  refine packed_ext fun i hi => ?_
  have hdigit := decimalDigit_le_nine u i
  have hcarry := doublingCarry_le_one u (r.work.testBit (w - 1)) i
  rw [nibble_shiftedAcc_eq hw r hi, nibble_packedDecimal _ hi, decimalDigit_double, h,
    shiftCarry_add3_packedDecimal u _ hi.le, nibble_add3 _ hi, add3Digit_toNat,
    nibble_packedDecimal u hi]
  split_ifs <;> omega

/-! ### The bits shifted in, and the corrections made -/

/-- The `k` highest bits of a value of `w` bits: those shifted in by the first `k` shifts. -/
def topBits (w v k : Nat) : Nat := v / 2 ^ (w - k)

theorem topBits_zero {w v : Nat} (hv : v < 2 ^ w) : topBits w v 0 = 0 := Nat.div_eq_of_lt hv

theorem topBits_all (w v : Nat) : topBits w v w = v := by
  rw [topBits, Nat.sub_self, pow_zero, Nat.div_one]

theorem topBits_succ {w k : Nat} (v : Nat) (hk : k < w) :
    topBits w v (k + 1) = 2 * topBits w v k + (v.testBit (w - 1 - k)).toNat := by
  have hexp : w - k = w - 1 - k + 1 := by omega
  rw [topBits, topBits, Nat.toNat_testBit, hexp, pow_succ, ← Nat.div_div_eq_div_mul,
    Nat.div_add_mod, Nat.add_comm k 1, Nat.sub_add_eq]

/-- How many corrections come before shift number `k + 1`, its own not counted. -/
def correctionsBefore (w v k : Nat) : Nat :=
  (List.range k).countP fun j => someDigit5 (topBits w v j)

theorem correctionsBefore_succ (w v k : Nat) :
    correctionsBefore w v (k + 1) =
      correctionsBefore w v k + (someDigit5 (topBits w v k)).toNat := by
  rw [correctionsBefore, List.range_succ, List.countP_append]
  cases h : someDigit5 (topBits w v k) <;> simp [h, correctionsBefore]

theorem correctionsBefore_mono (w v : Nat) : Monotone (correctionsBefore w v) :=
  monotone_nat_of_le_succ fun k => (correctionsBefore_succ w v k).ge.trans' (Nat.le_add_right _ _)

/-- The `K` of R176 counts the corrections before the last shift; none comes before the first, where
the accumulator is 0. -/
theorem corrections_eq {w v : Nat} (hv : v < 2 ^ w) :
    corrections w v = correctionsBefore w v w := by
  cases w with
  | zero => rfl
  | succ n =>
    have hzero : someDigit5 (topBits (n + 1) v 0) = false := by
      rw [topBits_zero hv]; decide
    rw [correctionsBefore, List.range_succ_eq_map, List.countP_cons, List.countP_map, hzero]
    simp only [corrections, topBits, Nat.add_sub_cancel, Function.comp_def, Nat.succ_eq_add_one,
      Nat.add_sub_add_right, Bool.false_eq_true, if_false, Nat.add_zero]

theorem corrections_le (w v : Nat) : corrections w v ≤ w - 1 :=
  List.countP_le_length.trans_eq List.length_range

/-! ### The registers from cycle to cycle -/

/-- The registers in the first cycle after `k` shifts, `k < W`. -/
def afterShifts (c : Config) (v : Nat) (out : Packed) (k : Nat) : Bcd :=
  { work := cut c.bcdW (v * 2 ^ k), acc := packedDecimal (topBits c.bcdW v k), cnt := c.bcdW - k,
    active := true, fix := false, out := out }

/-- The registers that BCD_ADD3 leaves (R172). -/
def corrected (r : Bcd) : Bcd := { r with acc := add3 r.acc, fix := true }

/-- The registers in cycle `m + 1` of a conversion of `v` that started in cycle 0 (R176): those of a
cycle right after a shift or after the start, those of a cycle after a correction, or those of any
cycle after the last shift. -/
inductive ConversionAt (c : Config) (v : Nat) (out : Packed) (m : Nat) (r : Bcd) : Prop
  | shifted (k : Nat) (hk : k < c.bcdW) (hm : m = k + correctionsBefore c.bcdW v k)
      (hr : r = afterShifts c v out k)
  | corrected (k : Nat) (hk : k < c.bcdW) (hm : m = k + correctionsBefore c.bcdW v k + 1)
      (hdue : someDigit5 (topBits c.bcdW v k) = true)
      (hr : r = corrected (afterShifts c v out k))
  | finished (hm : c.bcdW + correctionsBefore c.bcdW v c.bcdW ≤ m) (hidle : r.active = false)
      (hout : r.out = packedDecimal v)

theorem nextConversion_of_idle {c : Config} {r : Bcd} (h : r.active = false) :
    nextConversion c r = r := by
  rw [nextConversion_eq, if_pos h]

theorem nextConversion_of_due {c : Config} {r : Bcd} (ha : r.active = true)
    (hdue : any5 r.acc = true) (hfix : r.fix = false) : nextConversion c r = corrected r := by
  rw [nextConversion_eq, ha, hdue, hfix, if_neg (by decide), if_pos (by decide), corrected, ha]

/-- The registers are ready for shift number `k + 1`: each digit is as a correction leaves it. -/
structure ReadyToShift (c : Config) (v : Nat) (out : Packed) (k : Nat) (r : Bcd) : Prop where
  active : r.active = true
  settled : (any5 r.acc && !r.fix) = false
  acc : r.acc = add3 (packedDecimal (topBits c.bcdW v k))
  work : r.work = cut c.bcdW (v * 2 ^ k)
  cnt : r.cnt = c.bcdW - k
  out : r.out = out

theorem readyToShift_corrected (c : Config) (v : Nat) (out : Packed) (k : Nat) :
    ReadyToShift c v out k (corrected (afterShifts c v out k)) :=
  ⟨rfl, Bool.and_false _, rfl, rfl, rfl, rfl⟩

theorem readyToShift_of_not_due {c : Config} {v k : Nat} (out : Packed)
    (h : someDigit5 (topBits c.bcdW v k) = false) :
    ReadyToShift c v out k (afterShifts c v out k) := by
  have hany : any5 (packedDecimal (topBits c.bcdW v k)) = false := (any5_packedDecimal _).trans h
  exact ⟨rfl, (congrArg (· && true) hany :), (add3_of_not_any5 hany).symm, rfl, rfl, rfl⟩

/-- The bit that leaves `work` in shift number `k + 1` is the next lower one of the value. -/
theorem cut_shifted_testBit {w v k : Nat} (hk : k < w) :
    (cut w (v * 2 ^ k)).testBit (w - 1) = v.testBit (w - 1 - k) := by
  rw [cut, Nat.testBit_mod_two_pow, Nat.testBit_mul_two_pow]
  simp [show w - 1 < w by omega, show k ≤ w - 1 by omega]

theorem shiftIn_cut_shifted (w v k : Nat) :
    shiftIn w (cut w (v * 2 ^ k)) false = cut w (v * 2 ^ (k + 1)) := by
  rw [shiftIn, Bool.toNat_false, Nat.add_zero, cut, cut, cut, Nat.mul_mod_mod, pow_succ]
  congr 1
  ring

section Shift

variable {c : Config} {v k : Nat} {out : Packed} {r : Bcd}

theorem ReadyToShift.shiftedAcc_eq (h : ReadyToShift c v out k r) (hk : k < c.bcdW) :
    shiftedAcc c.bcdW r = packedDecimal (topBits c.bcdW v (k + 1)) := by
  rw [shiftedAcc_of_corrected (Nat.one_le_of_lt hk) h.acc, h.work, cut_shifted_testBit hk,
    topBits_succ v hk]

/-- BCD_SHIFT goes from one shift's registers to the next one's (R173). -/
theorem ReadyToShift.nextConversion_eq (h : ReadyToShift c v out k r) (hk : k + 1 < c.bcdW) :
    nextConversion c r = afterShifts c v out (k + 1) := by
  have hcnt : r.cnt ≠ 1 := by rw [h.cnt]; omega
  have hwork : shiftedWork c.bcdW r = cut c.bcdW (v * 2 ^ (k + 1)) := by
    rw [shiftedWork_eq_shiftIn, h.work, shiftIn_cut_shifted]
  have hdec : decAt c.bcdCntWidth r.cnt = c.bcdW - (k + 1) := by
    rw [h.cnt, decAt_eq (by omega) (bcdCnt_lt_width c (Nat.sub_le _ _)), Nat.sub_sub]
  rw [Machine.nextConversion_eq, if_neg (by rw [h.active]; decide),
    if_neg (by rw [h.settled]; decide), if_neg hcnt, h.shiftedAcc_eq (Nat.lt_of_succ_lt hk),
    hwork, hdec, h.active, h.out]
  rfl

/-- BCD_LAST_SHIFT ends the conversion with the digits of the whole value (R174). -/
theorem ReadyToShift.nextConversion_last (h : ReadyToShift c v out k r) (hk : k + 1 = c.bcdW) :
    (nextConversion c r).active = false ∧ (nextConversion c r).out = packedDecimal v := by
  have hcnt : r.cnt = 1 := by rw [h.cnt]; omega
  have hacc := h.shiftedAcc_eq (Nat.lt_of_succ_le hk.le)
  rw [hk, topBits_all] at hacc
  rw [Machine.nextConversion_eq, if_neg (by rw [h.active]; decide),
    if_neg (by rw [h.settled]; decide), if_pos hcnt, hacc]
  exact ⟨rfl, rfl⟩

/-- Shift number `k + 1`, the last or not, takes the conversion to its next registers. -/
theorem ReadyToShift.conversionAt {m : Nat} (h : ReadyToShift c v out k r) (hk : k < c.bcdW)
    (hm : m = k + 1 + correctionsBefore c.bcdW v (k + 1)) :
    ConversionAt c v out m (nextConversion c r) := by
  obtain hmore | hlast := Nat.lt_or_eq_of_le (Nat.succ_le_of_lt hk)
  · exact .shifted (k + 1) hmore hm (h.nextConversion_eq hmore)
  · obtain ⟨hidle, hout⟩ := h.nextConversion_last hlast
    exact .finished (by rw [hm, ← hlast]) hidle hout

theorem conversionAt_nextConversion {m : Nat} (h : ConversionAt c v out m r) :
    ConversionAt c v out (m + 1) (nextConversion c r) := by
  cases h with
  | shifted k hk hm hr =>
    subst hr
    cases hdue : someDigit5 (topBits c.bcdW v k) with
    | true =>
      have hany := (any5_packedDecimal (topBits c.bcdW v k)).trans hdue
      exact .corrected k hk (by rw [hm]) hdue (nextConversion_of_due rfl hany rfl)
    | false =>
      refine (readyToShift_of_not_due out hdue).conversionAt hk ?_
      rw [hm, correctionsBefore_succ, hdue, Bool.toNat_false]
      omega
  | corrected k hk hm hdue hr =>
    subst hr
    refine (readyToShift_corrected c v out k).conversionAt hk ?_
    rw [hm, correctionsBefore_succ, hdue, Bool.toNat_true]
    omega
  | finished hm hidle hout =>
    rw [nextConversion_of_idle hidle]
    exact .finished (Nat.le_succ_of_le hm) hidle hout

/-- The first cycle of a conversion has the registers of a start (R170). -/
theorem conversionAt_started (hw : 1 ≤ c.bcdW) (hv : v < 2 ^ c.bcdW) :
    ConversionAt c v out 0 (startedBcd c v out) := by
  refine .shifted 0 hw rfl ?_
  rw [afterShifts, topBits_zero hv, packedDecimal_zero, pow_zero, Nat.mul_one, Nat.sub_zero]
  rfl

/-- Until a conversion ends the converter is active with the former result in `out` (R181). -/
theorem ConversionAt.active_of_lt {m : Nat} (h : ConversionAt c v out m r)
    (hm : m < c.bcdW + correctionsBefore c.bcdW v c.bcdW) : r.active = true ∧ r.out = out := by
  cases h with
  | shifted k hk _ hr => subst hr; exact ⟨rfl, rfl⟩
  | corrected k hk _ _ hr => subst hr; exact ⟨rfl, rfl⟩
  | finished hend _ _ => exact absurd hm (Nat.not_lt.2 hend)

/-- Each shift and each correction takes one cycle: after all of them the conversion has ended. -/
theorem ConversionAt.finished_of_le {m : Nat} (h : ConversionAt c v out m r)
    (hm : c.bcdW + correctionsBefore c.bcdW v c.bcdW ≤ m) :
    r.active = false ∧ r.out = packedDecimal v := by
  cases h with
  | shifted k hk hmk _ =>
    have hmono := correctionsBefore_mono c.bcdW v hk.le
    omega
  | corrected k hk hmk hdue _ =>
    have hmono := correctionsBefore_mono c.bcdW v (Nat.succ_le_of_lt hk)
    rw [Nat.succ_eq_add_one, correctionsBefore_succ, hdue, Bool.toNat_true] at hmono
    omega
  | finished _ hidle hout => exact ⟨hidle, hout⟩

end Shift

/-! ### The run of a conversion -/

/-- Cycle `m + 1` of an undisturbed conversion. -/
theorem after_conversionAt {s : State} {m : Nat} (hw : s.cfg.wellFormed = true)
    (hen : s.inp.enable = true) (hv : s.inp.din < 2 ^ s.cfg.bcdW) (hr : NoReset s (m + 1))
    (hquiet : ∀ j, 1 ≤ j → j < m + 1 → (s.inputsAt j).enable = false) :
    After s (m + 1) (fun t => ConversionAt s.cfg s.inp.din s.bcd.out m t.bcd) := by
  obtain ⟨-, hbcdW, -⟩ := (wellFormed_iff s.cfg).1 hw
  obtain ⟨t, ht⟩ := step_total hw
  have hcfg := step_cfg ht
  have hfirst : ConversionAt s.cfg s.inp.din s.bcd.out 0 t.bcd := by
    rw [step_bcd_of_not_rst ht (hr 0 m.succ_pos), nextBcd_of_enable hen]
    exact conversionAt_started hbcdW hv
  have hrun : After t m (fun u => ConversionAt s.cfg s.inp.din s.bcd.out m u.bcd) := by
    refine after_induction (I := fun k u => ConversionAt s.cfg s.inp.din s.bcd.out k u.bcd)
      (hcfg ▸ hw) hfirst ?_ m le_rfl
    intro k u u' hk hcfgu hinp hstep hu
    rw [step_inputsAt ht] at hinp
    have hrst : u.inp.rst = false := hinp ▸ hr _ (Nat.succ_lt_succ hk)
    have hoff : u.inp.enable = false := hinp ▸ hquiet _ k.succ_pos (Nat.succ_lt_succ hk)
    rw [step_bcd_of_not_rst hstep hrst, nextBcd_of_not_enable hoff, hcfgu, hcfg]
    exact conversionAt_nextConversion hu
  rw [Nat.add_comm]
  exact .trans (runFor_one ht) hrun

/-- Settles O42: the conversion takes a cycle for each shift and each correction. -/
theorem bcdConversionGivesTheDecimalDigits : Obligations.BcdConversionGivesTheDecimalDigits := by
  intro s hw hen hv hr hquiet
  obtain ⟨-, hbcdW, -⟩ := (wellFormed_iff s.cfg).1 hw
  have hle := corrections_le s.cfg.bcdW s.inp.din
  have heq := corrections_eq hv
  have hrun {m : Nat} (hm : m < 2 * s.cfg.bcdW) := after_conversionAt hw hen hv
    (hr.mono (Nat.succ_le_of_lt hm)) (fun j hpos hj => hquiet j hpos (by omega))
  refine ⟨s.cfg.bcdW + corrections s.cfg.bcdW s.inp.din, Nat.le_add_right _ _, by omega,
    fun k hpos hk => ?_, ?_⟩
  · obtain ⟨m, rfl⟩ := Nat.exists_eq_add_of_le' hpos
    exact (hrun (by omega)).mono fun t ht => ht.active_of_lt (by omega)
  · refine (hrun (by omega)).mono fun t ht => ?_
    obtain ⟨hidle, hout⟩ := ht.finished_of_le (by omega)
    refine ⟨hidle, fun i hi => ?_⟩
    rw [decimalDigit_mod _ hi, ← nibble_packedDecimal _ hi, ← hout]
    rfl

/-- Settles O43: the converter is active exactly until the last shift, and `K` counts the
corrections. -/
theorem bcdLatencyIsWidthPlusCorrections : Obligations.BcdLatencyIsWidthPlusCorrections := by
  intro s hw hen hv n hr hquiet k hpos hk
  obtain ⟨m, rfl⟩ := Nat.exists_eq_add_of_le' hpos
  have hrun := after_conversionAt hw hen hv (hr.mono hk)
    (fun j hj hjm => hquiet j hj (hjm.trans_le hk))
  refine hrun.mono fun t ht => ?_
  rw [corrections_eq hv]
  by_cases hm : m < s.cfg.bcdW + correctionsBefore s.cfg.bcdW s.inp.din s.cfg.bcdW
  · obtain ⟨hactive, -⟩ := ht.active_of_lt hm
    exact hactive.trans (decide_eq_true hm).symm
  · obtain ⟨hidle, -⟩ := ht.finished_of_le (Nat.le_of_not_lt hm)
    exact hidle.trans (decide_eq_false hm).symm

end Sys2Proof.Machine

/-! One cycle of the DisplayScanner (43_display_scanner.md R193, R194, R196 to R198): what selects
each of its operations, and what its pins show. -/

namespace Sys2Proof.Machine

/-! ### The operations -/

/-- The digit index wraps after digit 3 (R193). -/
theorem idx_succ_toNat (i : BitVec 2) : (i + 1).toNat = (i.toNat + 1) % 4 := BitVec.toNat_add i 1

/-- Settles O23: DS's decode table reads the display's strobe alone. -/
theorem displayAdvanceAndHold : Obligations.DisplayAdvanceAndHold := by
  intro s
  rw [operation_ds]
  refine ⟨?_, ?_, ⟨_, rfl, rfl, idx_succ_toNat s.idx⟩, ⟨_, rfl, rfl⟩⟩
  · by_cases h : s.dispTick = 0 <;> simp [h]
  · by_cases h : s.dispTick = 0 <;> simp [h]

/-! ### The digit lines -/

/-- `dig_on` has the one bit `idx` (R196). -/
theorem digOn_getLsbD (s : State) (k : Nat) :
    s.digOn.getLsbD k = decide (k = s.idx.toNat) := by
  have hbit : s.digOn.getLsbD k = (decide (s.idx.toNat < 4) && decide (s.idx.toNat = k)) :=
    BitVec.getLsbD_twoPow s.idx.toNat k
  rw [hbit, decide_eq_true s.idx.isLt, Bool.true_and]
  exact decide_eq_decide.2 eq_comm

theorem digOn_getLsbD_iff (s : State) (k : Nat) :
    s.digOn.getLsbD k = true ↔ k = s.idx.toNat := by
  rw [digOn_getLsbD s k, decide_eq_true_eq]

/-- Settles O25: the line of `idx` is the one that is on. -/
theorem exactlyOneDigitIsEnabled : Obligations.ExactlyOneDigitIsEnabled := fun s =>
  ⟨fun k _ => digOn_getLsbD_iff s k, s.idx.toNat, s.idx.isLt, (digOn_getLsbD_iff s _).2 rfl,
    fun j _ => (digOn_getLsbD_iff s j).1⟩

/-! ### The pins -/

/-- A legal table has an entry for every nibble, and the lit segments are the selected one's (R196,
R262). -/
theorem segTable_selected {s : State} (hw : s.cfg.wellFormed = true) :
    s.cfg.segTable[(nibble s.inp.digits s.idx.toNat).toNat]? = some s.segLit := by
  obtain ⟨-, -, -, -, -, hlen⟩ := (wellFormed_iff s.cfg).1 hw
  have hlt : (nibble s.inp.digits s.idx.toNat).toNat < s.cfg.segTable.length :=
    hlen ▸ (nibble s.inp.digits s.idx.toNat).isLt
  rw [List.getElem?_eq_getElem hlt]
  exact congrArg some (List.getD_eq_getElem _ _ hlt).symm

theorem nibble_getLsbD (v : Packed) (i : Nat) {k : Nat} (hk : k < 4) :
    (nibble v i).getLsbD k = v.getLsbD (4 * i + k) := by
  rw [nibble, BitVec.getLsbD_extractLsb', decide_eq_true hk, Bool.true_and]

/-- A bit of a word that an active-low polarity complements (R197). -/
theorem polarity_getLsbD {w : Nat} (low : Bool) (v : BitVec w) {k : Nat} (hk : k < w) :
    (if low then ~~~v else v).getLsbD k = xor low (v.getLsbD k) := by
  cases low with
  | false => simp
  | true => simp [hk]

/-- Settles O26: either polarity is an exclusive or on what is lit and on what is enabled. -/
theorem displayPinsShowTheSelectedDigit : Obligations.DisplayPinsShowTheSelectedDigit := by
  intro s hw
  refine ⟨s.segLit, segTable_selected hw, fun _ hk => nibble_getLsbD _ _ hk,
    fun _ hk => polarity_getLsbD _ _ hk, fun k hk => ?_⟩
  rw [← digOn_getLsbD s k]
  exact polarity_getLsbD _ _ hk

end Sys2Proof.Machine

/-! The scan of the DisplayScanner (43_display_scanner.md R199): in a run without RESET the digit
index counts the display's strobes modulo 4. -/

namespace Sys2Proof.Machine

/-! ### Counting strobes -/

/-- How many of the cycles before cycle `k` have a strobe, in a run that begins with the counter at
`TICK_INIT` (R103). -/
def strobesBefore (p : TickParams) (k : Nat) : Nat :=
  Nat.count (fun j => j % p.period = p.init) k

section Strobes

variable {p : TickParams}

theorem strobesBefore_succ (p : TickParams) (k : Nat) :
    strobesBefore p (k + 1) = strobesBefore p k + if k % p.period = p.init then 1 else 0 :=
  Nat.count_succ _ k

theorem strobe_mod_period (h : p.init < p.period) (q : Nat) :
    (p.init + q * p.period) % p.period = p.init :=
  (mod_eq_iff_exists_mul h).2 ⟨q, rfl⟩

theorem strobesBefore_strobe (h : p.init < p.period) (q : Nat) :
    strobesBefore p (p.init + q * p.period) = q := by
  have hmod : p.init % p.period = p.init := Nat.mod_eq_of_lt h
  have hcount := Nat.count_modEq_card (p.init + q * p.period) (Nat.zero_lt_of_lt h) p.init
  simp only [Nat.ModEq, hmod, strobe_mod_period h, lt_irrefl, if_false] at hcount
  rw [strobesBefore, hcount, Nat.add_mul_div_right _ _ (Nat.zero_lt_of_lt h),
    Nat.div_eq_of_lt h, Nat.zero_add, Nat.add_zero]

/-- No strobe comes before that of cycle `TICK_INIT`. -/
theorem strobesBefore_first (h : p.init < p.period) {k : Nat} (hk : k ≤ p.init) :
    strobesBefore p k = 0 := by
  have hle : strobesBefore p k ≤ strobesBefore p (p.init + 0 * p.period) :=
    Nat.count_monotone _ (hk.trans (Nat.le_add_right _ _))
  rw [strobesBefore_strobe h] at hle
  exact Nat.le_zero.1 hle

/-- In the cycles after strobe `m` up to strobe `m + 1` there have been `m + 1` strobes, counted from
strobe 0 on. -/
theorem strobesBefore_between (h : p.init < p.period) {m k : Nat}
    (hlo : p.init + m * p.period + 1 ≤ k) (hhi : k ≤ p.init + (m + 1) * p.period) :
    strobesBefore p k = m + 1 := by
  apply le_antisymm
  · calc strobesBefore p k ≤ strobesBefore p (p.init + (m + 1) * p.period) :=
          Nat.count_monotone _ hhi
      _ = m + 1 := strobesBefore_strobe h (m + 1)
  · calc m + 1 = strobesBefore p (p.init + m * p.period + 1) := by
          rw [strobesBefore_succ, strobesBefore_strobe h, if_pos (strobe_mod_period h m)]
      _ ≤ strobesBefore p k := Nat.count_monotone _ hlo

end Strobes

/-! ### The digit index in a run -/

/-- All that a step does to the digit index (R193, R194, R260). -/
theorem step_idx {s t : State} (h : step s = .next t) :
    t.idx = if s.inp.rst then 0 else if s.dispTick = 0 then s.idx + 1 else s.idx := by
  obtain ⟨-, ⟨hr, rfl⟩ | ⟨hr, rfl⟩⟩ := step_next h
  · rw [hr, State.advance_idx, State.resetRegisters_idx, if_pos rfl]
  · rw [hr, State.advance_idx, committed_idx, if_neg Bool.false_ne_true]

/-- The scanner in cycle `k` of a run without RESET: its counter in phase, and its index the number
of the strobes so far, modulo 4. -/
def ScanAt (p : TickParams) (k : Nat) (t : State) : Prop :=
  TickPhase p k t.dispTick ∧ t.idx.toNat = strobesBefore p k % 4

theorem scanAt_step {k : Nat} {t u : State} (h : ScanAt t.cfg.dispTick k t)
    (hr : t.inp.rst = false) (hstep : step t = .next u) :
    ScanAt t.cfg.dispTick (k + 1) u := by
  obtain ⟨hphase, hidx⟩ := h
  have hcnt : u.dispTick = nextTick t.cfg.dispTick t.dispTick :=
    (step_tickCnt hstep .display).trans (if_neg (hr ▸ Bool.false_ne_true))
  refine ⟨hcnt ▸ tickPhase_nextTick hphase, ?_⟩
  rw [step_idx hstep, hr, if_neg Bool.false_ne_true, strobesBefore_succ]
  simp only [← cnt_eq_zero_iff_of_tickPhase hphase]
  split_ifs
  · rw [idx_succ_toNat, hidx, Nat.mod_add_mod]
  · exact hidx

/-- A scan from digit 0 with the display's counter at `DISP_TICK_INIT`, as RESET leaves it. -/
theorem after_scanAt {s : State} {n : Nat} (hw : s.cfg.wellFormed = true) (hidx : s.idx = 0)
    (hcnt : s.dispTick = s.cfg.dispTick.init) (hr : NoReset s n) :
    ∀ k ≤ n, After s k (ScanAt s.cfg.dispTick k) := by
  refine after_induction hw ⟨?_, ?_⟩ ?_
  · rw [hcnt]
    exact tickPhase_init (tickInv_init hw .display)
  · rw [hidx]; rfl
  · intro k t u hk hcfg hinp hstep ht
    rw [← hcfg] at ht ⊢
    exact scanAt_step ht (hinp ▸ hr k hk) hstep

/-- Strobe `j` ends a slot of digit `j mod 4`. -/
theorem ScanAt.of_strobe {p : TickParams} {j : Nat} {t : State} (hinit : p.init < p.period)
    (h : ScanAt p (p.init + j * p.period) t) : t.stb .display = true ∧ t.idx.toNat = j % 4 := by
  obtain ⟨hphase, hidx⟩ := h
  refine ⟨(stb_iff t .display).2 ?_, hidx.trans (by rw [strobesBefore_strobe hinit])⟩
  exact (cnt_eq_zero_iff_of_tickPhase hphase).2 (strobe_mod_period hinit j)

/-- Settles O46: the slot of a cycle is the number of the strobes before it. -/
theorem scanShowsEachDigitInTurn : Obligations.ScanShowsEachDigitInTurn := by
  intro s hw hidx hcnt n hr
  have hinit : s.cfg.dispTick.init < s.cfg.dispTick.period :=
    (tickPhase_init (tickInv_init hw .display)).1
  have hscan := after_scanAt hw hidx hcnt hr
  refine ⟨fun k hk hfirst => ?_, fun m k hk hlo hhi => ?_, fun m d hd hm => ?_, fun k hk => ?_⟩
  · refine (hscan k hk).mono fun t ⟨_, ht⟩ => BitVec.eq_of_toNat_eq ?_
    rw [ht, strobesBefore_first hinit hfirst]; rfl
  · refine (hscan k hk).mono fun t ⟨_, ht⟩ => ?_
    rw [ht, strobesBefore_between hinit hlo hhi]
  · have hstrobe {j : Nat} (hj : j < m + 4) :
        After s (s.cfg.dispTick.init + j * s.cfg.dispTick.period)
          (fun t => t.stb .display = true ∧ t.idx.toNat = j % 4) := by
      have hle : j * s.cfg.dispTick.period ≤ (m + 3) * s.cfg.dispTick.period :=
        Nat.mul_le_mul_right _ (Nat.le_of_lt_succ hj)
      exact (hscan _ ((Nat.add_le_add_left hle _).trans hm)).mono fun _ ht => ht.of_strobe hinit
    obtain ⟨j, ⟨hmj, hjm, rfl⟩, hunique⟩ := exists_unique_mod_eq_in_window m hd
    refine ⟨j, ⟨hmj, hjm, hstrobe hjm⟩, fun j' hmj' hjm' hshown => hunique j' hmj' hjm' ?_⟩
    exact (after_iff ((hstrobe hjm').mono fun t ⟨_, ht⟩ => by rw [ht])).1 hshown
  · obtain ⟨t, ht, -⟩ := hscan k hk
    obtain ⟨-, -, hinp⟩ := step_after_run hw ht
    refine ⟨t, ht, ?_⟩
    rw [← hinp, ← runFor_cfg ht]
    exact segTable_selected (runFor_cfg ht ▸ hw)

end Sys2Proof.Machine

/-! The EdgeSynchronizer (44_edge_synchronizer.md R211 to R215, R217 to R219): its operations, and its
filter in a run without RESET as a function of the synchronized input alone. The filter's level
decides its pulses, so each law over many cycles turns on the cycles in which the level flips. -/

namespace Sys2Proof.Machine

/-! ### The operations -/

/-- What selects each operation of DB_FILT: a difference, a full count and the new level (R210). -/
theorem operation_dbFilt_iff (s : State) :
    (s.operation .dbFilt = .ok .dbMatch ↔ s.sync.s2 = s.filt.stable) ∧
    (s.operation .dbFilt = .ok .dbCount ↔
      s.sync.s2 ≠ s.filt.stable ∧ s.filt.cnt ≠ s.cfg.debFull) ∧
    (s.operation .dbFilt = .ok .dbFlipUp ↔
      s.sync.s2 = true ∧ s.filt.stable = false ∧ s.filt.cnt = s.cfg.debFull) ∧
    (s.operation .dbFilt = .ok .dbFlipDown ↔
      s.sync.s2 = false ∧ s.filt.stable = true ∧ s.filt.cnt = s.cfg.debFull) := by
  rw [operation_dbFilt]
  by_cases hmatch : s.sync.s2 = s.filt.stable
  · cases hstable : s.filt.stable <;> simp [hmatch, hstable]
  · by_cases hfull : s.filt.cnt = s.cfg.debFull
    · have hold : s.filt.stable = !s.sync.s2 := Bool.eq_not.2 (Ne.symm hmatch)
      cases h2 : s.sync.s2 <;> simp [hold, h2, hfull]
    · simp [hmatch, hfull]

/-- Settles O24: each operation is one write, and only DB_COUNT's needs its counter in range. -/
theorem synchronizerAndFilter : Obligations.SynchronizerAndFilter := by
  intro s
  obtain ⟨hmatch, hcount, hup, hdown⟩ := operation_dbFilt_iff s
  exact ⟨operation_dbSync s, ⟨_, rfl, rfl⟩, hmatch, hcount, hup, hdown, ⟨_, rfl, rfl⟩,
    ⟨_, rfl, rfl, fun hroom => incAt_eq (debCnt_lt_width s.cfg hroom)⟩, ⟨_, rfl, rfl⟩,
    ⟨_, rfl, rfl⟩⟩

/-! ### One cycle of the filter -/

/-- The filter reports the level `b`, after `m` cycles in a row that differed from it (R217). -/
def Counted (b : Bool) (m : Nat) (r : DbFilt) : Prop := r.stable = b ∧ r.cnt = m

section Filter

variable {c : Config} {b : Bool} {m : Nat} {r : DbFilt}

theorem nextFilt_of_match (h : r.stable = b) : Counted b 0 (nextFilt c b r) := by
  rw [nextFilt, if_pos h.symm]
  exact ⟨h, rfl⟩

theorem nextFilt_of_count (h : Counted b m r) (hm : m + 1 < c.debN) :
    Counted b (m + 1) (nextFilt c (!b) r) := by
  obtain ⟨rfl, rfl⟩ := h
  have hroom : r.cnt + 1 ≤ c.debN - 1 := Nat.le_sub_one_of_lt hm
  rw [nextFilt, if_neg (Bool.not_ne_self _), if_neg (Nat.ne_of_lt hroom)]
  exact ⟨rfl, incAt_eq (debCnt_lt_width c hroom)⟩

theorem nextFilt_of_full (h : Counted b m r) (hm : m + 1 = c.debN) :
    Counted (!b) 0 (nextFilt c (!b) r) := by
  obtain ⟨rfl, rfl⟩ := h
  rw [nextFilt, if_neg (Bool.not_ne_self _), if_pos (Nat.eq_sub_of_add_eq hm)]
  exact ⟨rfl, rfl⟩

end Filter

/-! ### The filter over many cycles -/

/-- DB_FILT's registers in cycle `k`, from `r` in cycle 0, where `s2` is `x j` in cycle `j`. -/
def filtRun (c : Config) (x : Nat → Bool) (r : DbFilt) : Nat → DbFilt
  | 0 => r
  | k + 1 => nextFilt c (x k) (filtRun c x r k)

theorem filtRun_congr {c : Config} {x y : Nat → Bool} {r : DbFilt} {k : Nat}
    (h : ∀ j < k, x j = y j) : filtRun c x r k = filtRun c y r k := by
  induction k with
  | zero => rfl
  | succ k ih =>
    rw [filtRun, filtRun, h k k.lt_succ_self, ih fun j hj => h j (Nat.lt_succ_of_lt hj)]

section Stretches

variable {c : Config} {x : Nat → Bool} {r : DbFilt} {b : Bool} {a : Nat}

/-- While the input agrees, the filter stays as it is (R212). -/
theorem filtRun_settled (ha : Counted b 0 (filtRun c x r a)) {k : Nat} (hk : a ≤ k)
    (hx : ∀ j, a ≤ j → j < k → x j = b) : Counted b 0 (filtRun c x r k) := by
  induction k, hk using Nat.le_induction with
  | base => exact ha
  | succ k hk ih =>
    obtain ⟨hstable, -⟩ := ih fun j hj hjk => hx j hj (Nat.lt_succ_of_lt hjk)
    rw [filtRun, hx k hk k.lt_succ_self]
    exact nextFilt_of_match hstable

/-- While the input differs for fewer than `DEB_N` cycles, they are counted (R213). -/
theorem filtRun_counting (ha : Counted b 0 (filtRun c x r a)) {m : Nat} (hm : m < c.debN)
    (hx : ∀ j, a ≤ j → j < a + m → x j = !b) : Counted b m (filtRun c x r (a + m)) := by
  induction m with
  | zero => exact ha
  | succ m ih =>
    have hcount := ih (Nat.lt_of_succ_lt hm) fun j hj hjm => hx j hj (Nat.lt_succ_of_lt hjm)
    rw [← Nat.add_assoc, filtRun, hx (a + m) (Nat.le_add_right a m) (Nat.lt_succ_self _)]
    exact nextFilt_of_count hcount hm

/-- The `DEB_N`-th cycle in a row that differs flips the level (R217). -/
theorem filtRun_flip (ha : Counted b 0 (filtRun c x r a)) (hN : 1 ≤ c.debN)
    (hx : ∀ j, a ≤ j → j < a + c.debN → x j = !b) :
    Counted (!b) 0 (filtRun c x r (a + c.debN)) := by
  obtain ⟨m, hm⟩ := Nat.exists_eq_add_of_le' hN
  rw [hm] at hx ⊢
  have hcount := filtRun_counting ha (hm ▸ m.lt_succ_self) fun j hj hjm =>
    hx j hj (Nat.lt_succ_of_lt hjm)
  rw [← Nat.add_assoc, filtRun, hx (a + m) (Nat.le_add_right a m) (Nat.lt_succ_self _)]
  exact nextFilt_of_full hcount hm.symm

/-- An input that agrees in cycles 0 and 1 leaves the filter settled in cycle 2, whatever its count
was. -/
theorem filtRun_settled_at_two (hx : ∀ j < 2, x j = r.stable) :
    Counted r.stable 0 (filtRun c x r 2) := by
  have hone : Counted r.stable 0 (filtRun c x r 1) := by
    rw [filtRun, hx 0 Nat.two_pos]
    exact nextFilt_of_match rfl
  exact filtRun_settled hone one_le_two fun j _ hj => hx j hj

/-- Before cycle `DEB_N + 2` there is no flip, if the input differs from cycle 2 on. -/
theorem filtRun_before_flip (hx : ∀ j < 2, x j = r.stable) {k : Nat} (hk : k < c.debN + 2)
    (hdiff : ∀ j, 2 ≤ j → j < k → x j = !r.stable) : (filtRun c x r k).stable = r.stable := by
  match k with
  | 0 => rfl
  | 1 =>
    rw [filtRun, hx 0 Nat.two_pos]
    exact (nextFilt_of_match rfl).left
  | m + 2 =>
    rw [Nat.add_comm m 2] at hdiff ⊢
    exact (filtRun_counting (filtRun_settled_at_two hx) (Nat.lt_of_add_lt_add_right hk) hdiff).left

end Stretches

/-! ### Excursions of the input -/

/-- `s2` where the input leaves the level `b` for the cycles 0 to `len - 1`: two cycles later. -/
def excursion (b : Bool) (len j : Nat) : Bool := xor b (decide (2 ≤ j ∧ j < len + 2))

theorem excursion_of_mem {b : Bool} {len j : Nat} (h2 : 2 ≤ j) (hj : j < len + 2) :
    excursion b len j = !b := by
  rw [excursion, decide_eq_true ⟨h2, hj⟩, Bool.xor_true]

theorem excursion_of_lt {b : Bool} {len j : Nat} (hj : j < 2) : excursion b len j = b := by
  rw [excursion, decide_eq_false (by omega), Bool.xor_false]

theorem excursion_of_ge {b : Bool} {len j : Nat} (hj : len + 2 ≤ j) : excursion b len j = b := by
  rw [excursion, decide_eq_false (by omega), Bool.xor_false]

section Excursions

variable {c : Config} {r : DbFilt} {len : Nat}

/-- A short excursion leaves no trace (R218). -/
theorem filtRun_short_excursion (hlen : len < c.debN) (k : Nat) :
    (filtRun c (excursion r.stable len) r k).stable = r.stable := by
  have hstart : ∀ j < 2, excursion r.stable len j = r.stable := fun _ => excursion_of_lt
  have hkept {k : Nat} (hk : k ≤ len + 2) :
      (filtRun c (excursion r.stable len) r k).stable = r.stable :=
    filtRun_before_flip hstart (by omega) fun j h2 hj => excursion_of_mem h2 (hj.trans_le hk)
  rcases le_or_gt k (len + 2) with hk | hk
  · exact hkept hk
  · have hcleared : Counted r.stable 0 (filtRun c (excursion r.stable len) r (len + 3)) := by
      rw [filtRun, excursion_of_ge le_rfl]
      exact nextFilt_of_match (hkept le_rfl)
    exact (filtRun_settled hcleared hk fun j hj _ => excursion_of_ge (Nat.le_of_succ_le hj)).left

/-- A long excursion flips the level for as many cycles as it lasts, `DEB_N + 2` cycles later (R217,
R218). -/
theorem filtRun_long_excursion (hN : 1 ≤ c.debN) (hlen : c.debN ≤ len) (k : Nat) :
    (filtRun c (excursion r.stable len) r k).stable =
      xor r.stable (decide (c.debN + 2 ≤ k ∧ k < len + c.debN + 2)) := by
  have hstart : ∀ j < 2, excursion r.stable len j = r.stable := fun _ => excursion_of_lt
  have hflip : Counted (!r.stable) 0 (filtRun c (excursion r.stable len) r (2 + c.debN)) :=
    filtRun_flip (filtRun_settled_at_two hstart) hN fun j h2 hj => excursion_of_mem h2 (by omega)
  have hheld {k : Nat} (hlo : 2 + c.debN ≤ k) (hhi : k ≤ len + 2) :
      Counted (!r.stable) 0 (filtRun c (excursion r.stable len) r k) :=
    filtRun_settled hflip hlo fun j hj hjk => excursion_of_mem (by omega) (hjk.trans_le hhi)
  have hreturn := hheld (k := len + 2) (by omega) le_rfl
  have hreturned (j : Nat) (hj : len + 2 ≤ j) : excursion r.stable len j = !!r.stable := by
    rw [Bool.not_not, excursion_of_ge hj]
  have hback := filtRun_flip hreturn hN fun j hj _ => hreturned j hj
  by_cases hup : c.debN + 2 ≤ k ∧ k < len + c.debN + 2
  · rw [decide_eq_true hup, Bool.xor_true]
    rcases le_or_gt k (len + 2) with hk | hk
    · exact (hheld (by omega) hk).left
    · obtain ⟨m, rfl⟩ := Nat.exists_eq_add_of_lt hk
      exact (filtRun_counting (m := m + 1) hreturn (by omega) fun j hj _ => hreturned j hj).left
  · rw [decide_eq_false hup, Bool.xor_false]
    rcases Nat.lt_or_ge k (c.debN + 2) with hk | hk
    · exact filtRun_before_flip hstart hk fun j h2 hj => excursion_of_mem h2 (by omega)
    · rw [Bool.not_not] at hback
      exact (filtRun_settled hback (by omega) fun j hj _ => excursion_of_ge (by omega)).left

end Excursions

/-! ### The EdgeSynchronizer in a run -/

/-- `s2` in cycle `k` of a run without RESET: the input of two cycles before (R211). -/
def syncLevel (s : State) : Nat → Bool
  | 0 => s.sync.s2
  | 1 => s.sync.s1
  | k + 2 => (s.inputsAt k).aIn

theorem step_sync_of_not_rst {s t : State} (h : step s = .next t) (hr : s.inp.rst = false) :
    t.sync = { s1 := s.inp.aIn, s2 := s.sync.s1 } := by
  obtain ⟨-, ⟨hrst, -⟩ | ⟨-, rfl⟩⟩ := step_next h
  · exact absurd (hr.symm.trans hrst) Bool.false_ne_true
  · rw [State.advance_sync, committed_sync, State.inA]

theorem step_filt_of_not_rst {s t : State} (h : step s = .next t) (hr : s.inp.rst = false) :
    t.filt = nextFilt s.cfg s.sync.s2 s.filt := by
  obtain ⟨-, ⟨hrst, -⟩ | ⟨-, rfl⟩⟩ := step_next h
  · exact absurd (hr.symm.trans hrst) Bool.false_ne_true
  · rw [State.advance_filt, committed_filt]

/-- The synchronizer delays the input by two cycles, and the filter sees nothing else. -/
theorem after_filtRun {s : State} {k : Nat} (hw : s.cfg.wellFormed = true) (hr : NoReset s k) :
    After s k (fun t => t.filt = filtRun s.cfg (syncLevel s) s.filt k) := by
  have hrun := after_induction (n := k) (I := fun j t =>
    t.sync = { s1 := syncLevel s (j + 1), s2 := syncLevel s j } ∧
      t.filt = filtRun s.cfg (syncLevel s) s.filt j) hw ⟨rfl, rfl⟩ ?_
  · exact (hrun k le_rfl).mono fun _ ⟨_, hfilt⟩ => hfilt
  · rintro j t u hj hcfg hinp hstep ⟨hsync, hfilt⟩
    have hrst : t.inp.rst = false := hinp ▸ hr j hj
    rw [step_sync_of_not_rst hstep hrst, step_filt_of_not_rst hstep hrst, hsync, hfilt, hcfg, hinp]
    exact ⟨rfl, rfl⟩

/-- A pulse marks a flip of the level from one cycle to the next (R50). -/
theorem after_level {s : State} {k : Nat} {x level : Nat → Bool} (hw : s.cfg.wellFormed = true)
    (hr : NoReset s (k + 1)) (hx : ∀ j < k + 1, syncLevel s j = x j)
    (hlevel : ∀ j, (filtRun s.cfg x s.filt j).stable = level j) :
    After s (k + 1) (fun t => t.outputs.stable = level (k + 1) ∧
      t.outputs.upStb = (!level k && level (k + 1)) ∧
      t.outputs.downStb = (level k && !level (k + 1))) := by
  refine (after_filtRun hw hr).mono fun t ht => ?_
  rw [filtRun_congr hx] at ht
  have hup := nextFilt_up_iff s.cfg (x k) (filtRun s.cfg x s.filt k)
  have hdown := nextFilt_down_iff s.cfg (x k) (filtRun s.cfg x s.filt k)
  rw [← filtRun, ← ht, hlevel] at hup hdown
  have hstable : t.filt.stable = level (k + 1) := ht ▸ hlevel (k + 1)
  rw [hstable] at hup hdown
  refine ⟨hstable, Bool.eq_iff_iff.2 (hup.trans ?_), Bool.eq_iff_iff.2 (hdown.trans ?_)⟩
  · rw [Bool.and_eq_true, Bool.not_eq_true']
  · rw [Bool.and_eq_true, Bool.not_eq_true']

/-- A settled synchronizer passes an excursion of the input on. -/
theorem syncLevel_excursion {s : State} {len n : Nat} (h1 : s.sync.s1 = s.filt.stable)
    (h2 : s.sync.s2 = s.filt.stable)
    (hin : ∀ j, j < n → (s.inputsAt j).aIn = if j < len then !s.filt.stable else s.filt.stable) :
    ∀ j < n, syncLevel s j = excursion s.filt.stable len j := by
  intro j hj
  match j with
  | 0 => exact h2.trans (excursion_of_lt Nat.two_pos).symm
  | 1 => exact h1.trans (excursion_of_lt Nat.one_lt_two).symm
  | j + 2 =>
    refine (hin j (by omega)).trans ?_
    split_ifs with hlen
    · exact (excursion_of_mem (Nat.le_add_left 2 j) (Nat.add_lt_add_right hlen 2)).symm
    · exact (excursion_of_ge (Nat.add_le_add_right (Nat.le_of_not_lt hlen) 2)).symm

/-! ### The laws -/

/-- A level that is 1 from cycle `p` to cycle `q - 1` rises in cycle `p` alone. -/
theorem window_rises {p q m : Nat} (hpq : p < q) :
    (!decide (p ≤ m ∧ m < q) && decide (p ≤ m + 1 ∧ m + 1 < q)) = decide (m + 1 = p) := by
  rw [Bool.eq_iff_iff]
  simp only [Bool.and_eq_true, Bool.not_eq_true', decide_eq_true_eq, decide_eq_false_iff_not]
  omega

/-- And it falls in cycle `q` alone. -/
theorem window_falls {p q m : Nat} (hpq : p < q) :
    (decide (p ≤ m ∧ m < q) && !decide (p ≤ m + 1 ∧ m + 1 < q)) = decide (m + 1 = q) := by
  rw [Bool.eq_iff_iff]
  simp only [Bool.and_eq_true, Bool.not_eq_true', decide_eq_true_eq, decide_eq_false_iff_not]
  omega

/-- Settles O49: the level is constant, so there is no pulse. -/
theorem shortExcursionIsRejected : Obligations.ShortExcursionIsRejected := by
  intro s len n hw h1 h2 hr hlen hin k hpos hk
  obtain ⟨m, rfl⟩ := Nat.exists_eq_add_of_le' hpos
  have hx := syncLevel_excursion h1 h2 hin
  refine (after_level hw (hr.mono hk) (fun j hj => hx j (hj.trans_le hk))
    (filtRun_short_excursion hlen)).mono fun t ⟨hstable, hup, hdown⟩ => ⟨hstable, ?_, ?_⟩
  · rw [hup, Bool.not_and_self]
  · rw [hdown, Bool.and_not_self]

/-- Settles O50: the level is the complement for `len` cycles, and a pulse stands at either end. -/
theorem longExcursionFlipsThereAndBack : Obligations.LongExcursionFlipsThereAndBack := by
  intro s len n hw h1 h2 hr hlen hin k hpos hk
  obtain ⟨m, rfl⟩ := Nat.exists_eq_add_of_le' hpos
  obtain ⟨-, -, hN, -⟩ := (wellFormed_iff s.cfg).1 hw
  have hx := syncLevel_excursion h1 h2 hin
  refine (after_level hw (hr.mono hk) (fun j hj => hx j (hj.trans_le hk))
    (filtRun_long_excursion hN hlen)).mono fun t ⟨hstable, hup, hdown⟩ => ⟨hstable, ?_⟩
  have hrises := window_rises (p := s.cfg.debN + 2) (q := len + s.cfg.debN + 2) (m := m)
    (by omega)
  have hfalls := window_falls (p := s.cfg.debN + 2) (q := len + s.cfg.debN + 2) (m := m) (by omega)
  rw [hup, hdown]
  cases s.filt.stable with
  | false => exact ⟨by simpa using hrises, by simpa using hfalls⟩
  | true => exact ⟨by simpa using hfalls, by simpa using hrises⟩

/-- Settles O47: a change that holds is an excursion whose return is not seen by cycle `n`. -/
theorem sustainedChangeGivesExactlyOnePulse : Obligations.SustainedChangeGivesExactlyOnePulse := by
  intro s n hw h1 h2 hr hin k hpos hk
  have hexcursion := longExcursionFlipsThereAndBack s (n + s.cfg.debN) n hw h1 h2 hr
    (Nat.le_add_left _ _) (fun j hj => (hin j hj).trans (if_pos (by omega)).symm) k hpos hk
  refine hexcursion.mono fun t ⟨hstable, hup, hdown⟩ => ?_
  have hback : k < n + s.cfg.debN + s.cfg.debN + 2 := by omega
  have hnoReturn : ¬k = n + s.cfg.debN + s.cfg.debN + 2 := hback.ne
  rw [hstable, hup, hdown]
  refine ⟨?_, ?_⟩
  · by_cases hflip : k < s.cfg.debN + 2
    · simp [hflip, Nat.not_le_of_gt hflip]
    · simp [hflip, hback, Nat.le_of_not_lt hflip]
  · cases s.filt.stable <;> simp [hnoReturn]

/-- Settles O48: the level of cycle `DEB_N + 2` is decided by the first `DEB_N` inputs, and a flip
that follows at once is in the other direction. -/
theorem flipComesDebounceLatencyAfterTheChange :
    Obligations.FlipComesDebounceLatencyAfterTheChange := by
  intro s hw h1 h2 hr hin
  obtain ⟨-, -, hN, -⟩ := (wellFormed_iff s.cfg).1 hw
  have hstart : ∀ j < 2, syncLevel s j = s.filt.stable
    | 0, _ => h2
    | 1, _ => h1
  have hdiff : ∀ j, 2 ≤ j → j < s.cfg.debN + 2 → syncLevel s j = !s.filt.stable
    | j + 2, _, hj => hin j (Nat.lt_of_add_lt_add_right hj)
  have hbefore {k : Nat} (hk : k < s.cfg.debN + 2) :=
    filtRun_before_flip (c := s.cfg) hstart hk fun j hj hjk => hdiff j hj (hjk.trans hk)
  have hflip := filtRun_flip (filtRun_settled_at_two hstart) hN (Nat.add_comm s.cfg.debN 2 ▸ hdiff)
  rw [Nat.add_comm] at hflip
  refine ⟨fun k hk => ?_, ?_, ?_⟩
  · refine (after_filtRun hw (hr.mono (by omega))).mono fun t ht => ?_
    exact (congrArg DbFilt.stable ht).trans (hbefore hk)
  · refine (after_level hw (hr.mono (Nat.le_succ _)) (fun _ _ => rfl) (fun _ => rfl)).mono
      fun t ⟨hstable, hup, hdown⟩ => ?_
    rw [hstable, hup, hdown, hflip.left, hbefore (Nat.lt_succ_self _)]
    cases s.filt.stable <;> decide
  · refine (after_level hw hr (fun _ _ => rfl) (fun _ => rfl)).mono fun t ⟨_, hup, hdown⟩ => ?_
    rw [hup, hdown, hflip.left]
    exact ⟨fun hlow => by rw [hlow]; rfl, fun hhigh => by rw [hhigh]; rfl⟩

end Sys2Proof.Machine

/-! The units among each other (60_exceptions.md R242, R245; 10_state.md R20, 20_memory.md R72): two
cores that agree in one unit agree in it after a step, and a quiescent unit begins nothing. -/

namespace Sys2Proof.Machine

/-! ### Two steps that agree in one register -/

/-- Two steps agree in a register whose reset value the parameters give, where the two commits agree
in it: RESET takes both machines or neither, and the next input levels touch no register. -/
theorem step_congr {α : Type} {s s' t t' : State} (reg : State → α)
    (hadvance : ∀ u : State, reg u.advance = reg u)
    (hreset : ∀ u : State, reg u.resetRegisters = reg (State.resetOf u.cfg))
    (hcfg : s.cfg = s'.cfg) (hrst : s.inp.rst = s'.inp.rst)
    (h : step s = .next t) (h' : step s' = .next t')
    (hcommit : reg s.committed = reg s'.committed) : reg t = reg t' := by
  obtain ⟨-, ⟨hr, rfl⟩ | ⟨hr, rfl⟩⟩ := step_next h <;>
    obtain ⟨-, ⟨hr', rfl⟩ | ⟨hr', rfl⟩⟩ := step_next h'
  · rw [hadvance, hadvance, hreset, hreset, hcfg]
  · exact absurd (hr'.symm.trans (hrst.symm.trans hr)) Bool.false_ne_true
  · exact absurd (hr.symm.trans (hrst.trans hr')) Bool.false_ne_true
  · rw [hadvance, hadvance, hcommit]

/-! ### What each unit's commit is computed from -/

section Commits

variable {s s' : State}

theorem committed_tickCnt_congr {i : TickInst} (hcfg : s.cfg = s'.cfg)
    (hcnt : s.tickCnt i = s'.tickCnt i) : s.committed.tickCnt i = s'.committed.tickCnt i := by
  rw [committed_tickCnt, committed_tickCnt, hcfg, hcnt]

/-- The two machines agree in the parameters and in the SpiMaster's registers and input ports. -/
structure SameSpi (s s' : State) : Prop where
  cfg : s.cfg = s'.cfg
  ctl : s.ctl = s'.ctl
  tx : s.tx = s'.tx
  rx : s.rx = s'.rx
  sclkQ : s.sclkQ = s'.sclkQ
  en : s.inp.en = s'.inp.en
  cmd : s.inp.cmd = s'.inp.cmd
  miso : s.inp.miso = s'.inp.miso

/-- The edge pulses come from `sclk` and `sclk_q` alone (R47). -/
theorem SameSpi.pulse_eq (h : SameSpi s s') (e : Edge) : s.pulse e = s'.pulse e := by
  cases e with
  | rise => rw [State.pulse, State.pulse, State.rise, State.rise, h.ctl, h.sclkQ]
  | fall => rw [State.pulse, State.pulse, State.fall, State.fall, h.ctl, h.sclkQ]

theorem SameSpi.start_eq (h : SameSpi s s') : s.start = s'.start := by
  rw [State.start, State.start, State.inEn, State.inEn, h.ctl, h.en]

theorem committed_ctl_congr (h : SameSpi s s') : s.committed.ctl = s'.committed.ctl := by
  rw [committed_ctl, committed_ctl, State.inEn, State.inEn, h.cfg, h.en, h.ctl]

theorem committed_tx_congr (h : SameSpi s s') : s.committed.tx = s'.committed.tx := by
  rw [committed_tx, committed_tx, nextTx, nextTx, shp_eq_pulse, shp_eq_pulse,
    State.inCmd, State.inCmd, h.start_eq, h.pulse_eq, h.cfg, h.cmd, h.tx]

theorem committed_rx_congr (h : SameSpi s s') : s.committed.rx = s'.committed.rx := by
  rw [committed_rx, committed_rx, nextRx, nextRx, cap_eq_pulse, cap_eq_pulse,
    State.inMiso, State.inMiso, h.pulse_eq, h.cfg, h.miso, h.rx]

theorem committed_sclkQ_congr (h : SameSpi s s') : s.committed.sclkQ = s'.committed.sclkQ := by
  rw [committed_sclkQ, committed_sclkQ, h.ctl]

theorem committed_bcd_congr (hcfg : s.cfg = s'.cfg) (hbcd : s.bcd = s'.bcd)
    (hen : s.inp.enable = s'.inp.enable) (hdin : s.inp.din = s'.inp.din) :
    s.committed.bcd = s'.committed.bcd := by
  rw [committed_bcd, committed_bcd, nextBcd, nextBcd, State.inEnable, State.inEnable, State.inDin,
    State.inDin, hcfg, hbcd, hen, hdin]

theorem committed_idx_congr (hcnt : s.dispTick = s'.dispTick) (hidx : s.idx = s'.idx) :
    s.committed.idx = s'.committed.idx := by
  rw [committed_idx, committed_idx, hcnt, hidx]

theorem committed_sync_congr (hsync : s.sync = s'.sync) (ha : s.inp.aIn = s'.inp.aIn) :
    s.committed.sync = s'.committed.sync := by
  rw [committed_sync, committed_sync, State.inA, State.inA, hsync, ha]

theorem committed_filt_congr (hcfg : s.cfg = s'.cfg) (hsync : s.sync = s'.sync)
    (hfilt : s.filt = s'.filt) : s.committed.filt = s'.committed.filt := by
  rw [committed_filt, committed_filt, hcfg, hsync, hfilt]

end Commits

/-- Settles O12: each register's commit is computed from its own unit, and RESET from the
parameters. -/
theorem unitsDependOnlyOnThemselves : Obligations.UnitsDependOnlyOnThemselves := by
  intro s s' t t' hcfg hrst h h'
  refine ⟨fun i hcnt => ?tick, fun hctl htx hrx hq hen hcmd hmiso => ?spi,
    fun hbcd hen hdin => ?bcd, fun hcnt hidx => ?scan, fun hsync hfilt ha => ⟨?sync, ?filt⟩⟩
  case tick =>
    exact step_congr (·.tickCnt i) (·.advance_tickCnt i) (fun _ => by cases i <;> rfl) hcfg hrst h
      h' (committed_tickCnt_congr hcfg hcnt)
  case spi =>
    have hspi : SameSpi s s' := ⟨hcfg, hctl, htx, hrx, hq, hen, hcmd, hmiso⟩
    exact ⟨step_congr State.ctl State.advance_ctl (fun _ => rfl) hcfg hrst h h'
        (committed_ctl_congr hspi),
      step_congr State.tx State.advance_tx (fun _ => rfl) hcfg hrst h h' (committed_tx_congr hspi),
      step_congr State.rx State.advance_rx (fun _ => rfl) hcfg hrst h h' (committed_rx_congr hspi),
      step_congr State.sclkQ State.advance_sclkQ (fun _ => rfl) hcfg hrst h h'
        (committed_sclkQ_congr hspi)⟩
  case bcd =>
    exact step_congr State.bcd State.advance_bcd (fun _ => rfl) hcfg hrst h h'
      (committed_bcd_congr hcfg hbcd hen hdin)
  case scan =>
    exact step_congr State.idx State.advance_idx (fun _ => rfl) hcfg hrst h h'
      (committed_idx_congr hcnt hidx)
  case sync =>
    exact step_congr State.sync State.advance_sync (fun _ => rfl) hcfg hrst h h'
      (committed_sync_congr hsync ha)
  case filt =>
    exact step_congr State.filt State.advance_filt (fun _ => rfl) hcfg hrst h h'
      (committed_filt_congr hcfg hsync hfilt)

/-! ### Quiescent units -/

theorem spiQuiescent_iff (s : State) :
    s.spiQuiescent = true ↔ s.ctl.state = .idle ∧ s.inp.en = false := by
  rw [State.spiQuiescent, State.spiBusy, State.inEn]
  cases s.ctl.state <;> simp

theorem bcdQuiescent_iff (s : State) :
    s.bcdQuiescent = true ↔ s.bcd.active = false ∧ s.inp.enable = false := by
  rw [State.bcdQuiescent, State.inEnable, Bool.and_eq_true, Bool.not_eq_true', Bool.not_eq_true']

theorem debQuiescent_iff (s : State) :
    s.debQuiescent = true ↔
      s.sync = { s1 := s.inp.aIn, s2 := s.inp.aIn } ∧ s.filt.stable = s.inp.aIn ∧
        s.filt.cnt = 0 := by
  cases hsync : s.sync
  simp [State.debQuiescent, State.inA, hsync, and_assoc]

/-- With `sclk_q` at the level of `sclk` no edge is announced (R47). -/
theorem pulse_of_sclk_eq {s : State} (h : s.ctl.sclk = s.sclkQ) (e : Edge) : s.pulse e = false := by
  cases e with
  | rise => rw [State.pulse, State.rise, h, Bool.and_not_self]
  | fall => rw [State.pulse, State.fall, h, Bool.not_and_self]

/-- Without a pulse and without a start `rx` and `tx` are held (R139, R142). -/
theorem step_holds_rx_tx {s t : State} (h : step s = .next t) (hr : s.inp.rst = false)
    (hen : s.inp.en = false) (hq : s.ctl.sclk = s.sclkQ) : t.rx = s.rx ∧ t.tx = s.tx := by
  obtain ⟨-, htx, hrx, -⟩ := step_spi h hr
  rw [hrx, htx, nextRx, nextTx, cap_eq_pulse, shp_eq_pulse, start_of_no_request hen,
    pulse_of_sclk_eq hq, pulse_of_sclk_eq hq]
  exact ⟨rfl, rfl⟩

/-- SPI_IDLE keeps the SpiMaster in IDLE (R130). -/
theorem step_stays_idle {s t : State} (h : step s = .next t) (hr : s.inp.rst = false)
    (hidle : s.ctl.state = .idle) (hen : s.inp.en = false) : t.ctl.state = .idle := by
  obtain ⟨hctl, -⟩ := step_spi h hr
  rw [hctl, hen, nextCtl_of_idle _ hidle]
  rfl

/-- Settles O29: each unit's conditions select its idle operation, SPI_IDLE with both holds,
BCD_IDLE and DB_MATCH, and the synchronizer shifts one level into itself. -/
theorem quiescentUnitsBeginNothing : Obligations.QuiescentUnitsBeginNothing := by
  intro s t hr h
  refine ⟨fun hspi => ?spi, fun hbcd => ?bcd, fun hdeb => ?deb⟩
  case spi =>
    obtain ⟨hidle, hen⟩ := (spiQuiescent_iff s).1 hspi
    have hidle' := step_stays_idle h hr hidle hen
    obtain ⟨-, hdone, -⟩ := outputs_of_idle hidle'
    exact ⟨hidle', hdone, step_holds_rx_tx h hr hen⟩
  case bcd =>
    obtain ⟨hactive, hen⟩ := (bcdQuiescent_iff s).1 hbcd
    rw [step_bcd_of_not_rst h hr, nextBcd_of_not_enable hen, nextConversion_of_idle hactive]
  case deb =>
    obtain ⟨hsync, hstable, -⟩ := (debQuiescent_iff s).1 hdeb
    refine ⟨?_, ?_⟩
    · rw [step_sync_of_not_rst h hr, hsync]
    · rw [step_filt_of_not_rst h hr, nextFilt, hsync, if_pos hstable.symm]

end Sys2Proof.Machine

/-! Reset and the refusal of a step (70_reset_and_hazards.md R260, R262; 60_exceptions.md R232): the
configurations that every step refuses, and RESET's registers, flags and selection. -/

namespace Sys2Proof.Machine

/-! ### The configurations that are refused -/

/-- An illegal configuration is refused before any sub-unit's operation is decoded (R262; log 12). -/
theorem step_of_illegal {s : State} (hw : s.cfg.wellFormed = false) :
    step s = .refused .illegalConfiguration := by
  rw [step_eq_runCycle, runCycle, hw, if_neg Bool.false_ne_true]

/-- Settles O8: the step checks R262's list first, and past that check every sub-unit's operation is
decoded and answers a next state. -/
theorem onlyIllegalConfigurationsAreRefused :
    Obligations.OnlyIllegalConfigurationsAreRefused :=
  ⟨wellFormed_iff, fun _ => step_total, fun _ => step_of_illegal⟩

/-! ### RESET -/

/-- BLOCK's one row selects RESET; without `rst` the vector is rejected (R82; log 22). -/
theorem operation_block_iff (s : State) (i : Instr) :
    s.operation .block = .ok i ↔ s.inp.rst = true ∧ i = .reset := by
  rw [operation_block]
  cases s.inp.rst with
  | false => simp
  | true => simp [eq_comm]

/-- Settles O14: RESET writes the registers of `State.resetRegisters`, whose SpiMaster is in IDLE and
whose converter and filter show no flag. -/
theorem resetWritesEveryRegister : Obligations.ResetWritesEveryRegister := by
  intro s
  have hidle : s.resetRegisters.ctl.state = .idle := by rw [State.resetRegisters_ctl]
  obtain ⟨hbusy, hdone, -⟩ := outputs_of_idle hidle
  exact ⟨⟨s.resetRegisters, rfl, s.resetRegisters_cfg, s.resetRegisters_inp,
    s.resetRegisters_script, s.resetRegisters_drawn, s.resetRegisters_tick,
    s.resetRegisters_dispTick, s.resetRegisters_ctl, s.resetRegisters_sclkQ, s.resetRegisters_tx,
    s.resetRegisters_rx, s.resetRegisters_bcd, s.resetRegisters_idx, s.resetRegisters_sync,
    s.resetRegisters_filt, hbusy, hdone, rfl, rfl, rfl, step_of_rst⟩, operation_block_iff s⟩

end Sys2Proof.Machine
